-- ==== Sys2Proof/Word.lean ====
section
/-! DEFINITION. The word types of FPDEC: the widths 00_scope.md rule R11 writes `u8`, `u64`, `s8`, `s32` and so on. A signed
register is a bit vector read with `toInt` (two's complement). -/

namespace Sys2Proof

/-- A byte of the digit buffer, of the output buffer, or of an encoding. -/
abbrev Byte := BitVec 8
/-- An unsigned 64-bit register or the DATA of a host access. -/
abbrev U64 := BitVec 64
/-- A signed 32-bit register. -/
abbrev S32 := BitVec 32
/-- A signed 8-bit register (IDX). -/
abbrev S8 := BitVec 8

end Sys2Proof
end

