-- ==== Sys2Proof/Config.lean ====
section
/-! DEFINITION. What is fixed for the machine (00_scope.md rule R8), the one open parameter (R9), and the FREE VALUES: opaque
constants, so that no proof can see what they are. -/

namespace Sys2Proof.Config

/-! ### Implementation parameters (R8) -/

/-- "exponent bias used by the Decomposer". -/
def exponentBias : Int := 1075
/-- "implicit bit value". -/
def implicitBit : Nat := 2 ^ 52
/-- "cached power table entries". -/
def powEntries : Nat := 87
/-- "first decimal exponent of the table". -/
def powFirstExp : Int := -348
/-- "decimal exponent step". -/
def powExpStep : Int := 8
/-- "scaled binary exponent window", lower end, included. -/
def windowLo : Int := -60
/-- "scaled binary exponent window", upper end, included. -/
def windowHi : Int := -32
/-- "multiplier exponent offset". -/
def mulExpOffset : Int := 64
/-- "digit buffer capacity". -/
def digCapacity : Nat := 18
/-- "output buffer capacity". -/
def outCapacity : Nat := 25
/-- "integer-phase starting kappa". -/
def kappaStart : Int := 10

/-! ### The open parameter CYCLES(op) (R9, R170): no rule reads it -/

/-- The free part of `cycles`. Log 17. -/
opaque cyclesExtra : BitVec 4 → Nat

/-- CYCLES(op) for the micro-operation of STATE code `op`: "an integer of at least 1". -/
def cycles (op : BitVec 4) : Nat := cyclesExtra op + 1

/-! ### Free values of host reads while BUSY = 1 or after a fault (20_memory.md R58, 60_exceptions.md R148). Log 5.
The first argument is State's `tick`, so that every read draws anew. -/

opaque freeOutByte : Nat → Nat → Byte
opaque freeDigByte : Nat → Nat → Byte
opaque freeOutLen : Nat → BitVec 5
opaque freeNdig : Nat → BitVec 5
opaque freeKexp : Nat → S32

/-! ### Free values a reset leaves (10_state.md R44, 70_reset_and_hazards.md R162). Logs 3, 4.
The first argument is State's `tick` at a reset event and 0 in State.reset, the second the byte position or the register's number in Machine/Reset.lean. -/

opaque resetOutByte : Nat → Nat → Byte
opaque resetDigByte : Nat → Nat → Byte
opaque resetU64 : Nat → Nat → U64
opaque resetS32 : Nat → Nat → S32
opaque resetIdx : Nat → S8
opaque resetCut : Nat → BitVec 6

/-! ### Free values where a rule's function is given no value for its operands. Log 12. -/

/-- `Norm (m, e)` for m = 0 or m ≥ 2^64 (42_boundary.md R81 defines it for 0 < m < 2^64). -/
opaque normOutside : Nat → Int → Nat × Int
/-- The lower boundary's mantissa where its shift would be negative (R83; 00_scope.md R12 defines `<<` for n ≥ 0). -/
opaque lowerOutside : Nat → Int → Int
/-- P1 and P2 of SETUP where -UE would be negative (45_digit_generator.md R105; R12 defines `>>` for n ≥ 0). -/
opaque splitOutside : Int → Int → Int × Int
/-- TENS[i] for i outside 0..9 (10_state.md R41). -/
opaque tensOutside : Int → Nat
/-- `a div 0` (R12 defines `div` for b > 0). -/
opaque quotByZero : Nat → Nat
/-- DIG[i] for i ≥ 18, which does not exist (10_state.md R38). The first argument is State's `tick`. -/
opaque digOutside : Nat → Nat → Byte

/-- The text SPECIAL would write with CLS = FINITE (47_top_level.md R132 gives no row for it). The argument is State's `tick`. -/
opaque specialOutside : Nat → List Byte

end Sys2Proof.Config
end

