-- ==== Sys2Proof/Machine/Rom.lean ====
section
/-! DEFINITION. The two read-only tables: POW (43_cached_power.md R87, R88) and TENS (10_state.md R41). -/

namespace Sys2Proof.Machine

/-- POW[0..28]: (m_i, e_i) as R88 lists them. -/
def powTableA : List (Nat × Int) := [
  (0xFA8FD5A0081C0288, -1220),
  (0xBAAEE17FA23EBF76, -1193),
  (0x8B16FB203055AC76, -1166),
  (0xCF42894A5DCE35EA, -1140),
  (0x9A6BB0AA55653B2D, -1113),
  (0xE61ACF033D1A45DF, -1087),
  (0xAB70FE17C79AC6CA, -1060),
  (0xFF77B1FCBEBCDC4F, -1034),
  (0xBE5691EF416BD60C, -1007),
  (0x8DD01FAD907FFC3C, -980),
  (0xD3515C2831559A83, -954),
  (0x9D71AC8FADA6C9B5, -927),
  (0xEA9C227723EE8BCB, -901),
  (0xAECC49914078536D, -874),
  (0x823C12795DB6CE57, -847),
  (0xC21094364DFB5637, -821),
  (0x9096EA6F3848984F, -794),
  (0xD77485CB25823AC7, -768),
  (0xA086CFCD97BF97F4, -741),
  (0xEF340A98172AACE5, -715),
  (0xB23867FB2A35B28E, -688),
  (0x84C8D4DFD2C63F3B, -661),
  (0xC5DD44271AD3CDBA, -635),
  (0x936B9FCEBB25C996, -608),
  (0xDBAC6C247D62A584, -582),
  (0xA3AB66580D5FDAF6, -555),
  (0xF3E2F893DEC3F126, -529),
  (0xB5B5ADA8AAFF80B8, -502),
  (0x87625F056C7C4A8B, -475)]

/-- POW[29..57]. -/
def powTableB : List (Nat × Int) := [
  (0xC9BCFF6034C13053, -449),
  (0x964E858C91BA2655, -422),
  (0xDFF9772470297EBD, -396),
  (0xA6DFBD9FB8E5B88F, -369),
  (0xF8A95FCF88747D94, -343),
  (0xB94470938FA89BCF, -316),
  (0x8A08F0F8BF0F156B, -289),
  (0xCDB02555653131B6, -263),
  (0x993FE2C6D07B7FAC, -236),
  (0xE45C10C42A2B3B06, -210),
  (0xAA242499697392D3, -183),
  (0xFD87B5F28300CA0E, -157),
  (0xBCE5086492111AEB, -130),
  (0x8CBCCC096F5088CC, -103),
  (0xD1B71758E219652C, -77),
  (0x9C40000000000000, -50),
  (0xE8D4A51000000000, -24),
  (0xAD78EBC5AC620000, 3),
  (0x813F3978F8940984, 30),
  (0xC097CE7BC90715B3, 56),
  (0x8F7E32CE7BEA5C70, 83),
  (0xD5D238A4ABE98068, 109),
  (0x9F4F2726179A2245, 136),
  (0xED63A231D4C4FB27, 162),
  (0xB0DE65388CC8ADA8, 189),
  (0x83C7088E1AAB65DB, 216),
  (0xC45D1DF942711D9A, 242),
  (0x924D692CA61BE758, 269),
  (0xDA01EE641A708DEA, 295)]

/-- POW[58..86]. -/
def powTableC : List (Nat × Int) := [
  (0xA26DA3999AEF774A, 322),
  (0xF209787BB47D6B85, 348),
  (0xB454E4A179DD1877, 375),
  (0x865B86925B9BC5C2, 402),
  (0xC83553C5C8965D3D, 428),
  (0x952AB45CFA97A0B3, 455),
  (0xDE469FBD99A05FE3, 481),
  (0xA59BC234DB398C25, 508),
  (0xF6C69A72A3989F5C, 534),
  (0xB7DCBF5354E9BECE, 561),
  (0x88FCF317F22241E2, 588),
  (0xCC20CE9BD35C78A5, 614),
  (0x98165AF37B2153DF, 641),
  (0xE2A0B5DC971F303A, 667),
  (0xA8D9D1535CE3B396, 694),
  (0xFB9B7CD9A4A7443C, 720),
  (0xBB764C4CA7A44410, 747),
  (0x8BAB8EEFB6409C1A, 774),
  (0xD01FEF10A657842C, 800),
  (0x9B10A4E5E9913129, 827),
  (0xE7109BFBA19C0C9D, 853),
  (0xAC2820D9623BF429, 880),
  (0x80444B5E7AA7CF85, 907),
  (0xBF21E44003ACDD2D, 933),
  (0x8E679C2F5E44FF8F, 960),
  (0xD433179D9C8CB841, 986),
  (0x9E19DB92B4E31BA9, 1013),
  (0xEB96BF6EBADF77D9, 1039),
  (0xAF87023B9BF0EE6B, 1066)]

/-- The POW ROM: 87 entries (R88). Log 18. -/
def powTable : List (Nat × Int) := powTableA ++ (powTableB ++ powTableC)

/-- `RomRead(POW, i)` for 0 ≤ i ≤ 86 (R13, R87); PWALK's guard keeps i in that range. -/
def powEntry (i : Nat) : Nat × Int := powTable.getD i (0, 0)

/-- The decimal exponent k of entry i: `-348 + 8 * i` (R87). -/
def powDecimal (i : Int) : Int := Config.powFirstExp + Config.powExpStep * i

/-- TENS[i] = 10^i for 0 ≤ i ≤ 9 (R41). Outside, the ROM has no entry: a free value (log 12). -/
def tens (i : Int) : Nat := if 0 ≤ i ∧ i ≤ 9 then 10 ^ i.toNat else Config.tensOutside i

end Sys2Proof.Machine
end

