-- ==== Sys2Proof/Syntax.lean ====
section
/-! DEFINITION. The instructions of FPDEC: one constructor for each of the 42 rows of spec/opcode_table.json (30_encoding.md R63 to
R71). A row whose mask leaves bits free has those bits as its operand, at exactly their width; a write has its 64-bit DATA. -/

namespace Sys2Proof

inductive Instr where
  -- HACC: host-port accesses (R64, R65)
  /-- 0x000: read IN. -/
  | rdIn
  /-- 0x100: write IN. -/
  | wrIn (data : U64)
  /-- 0x008: read CMD. -/
  | rdCmd
  /-- 0x108: write CMD; DATA is a command word. -/
  | wrCmd (data : U64)
  /-- 0x010: read STATUS. -/
  | rdStatus
  /-- 0x018: read RESULT. -/
  | rdResult
  /-- 0x020: read OUT0. -/
  | rdOut0
  /-- 0x028: read OUT1. -/
  | rdOut1
  /-- 0x030: read OUT2. -/
  | rdOut2
  /-- 0x038: read OUT3. -/
  | rdOut3
  /-- 0x040: read DIG0. -/
  | rdDig0
  /-- 0x048: read DIG1. -/
  | rdDig1
  /-- 0x050: read DIG2. -/
  | rdDig2
  /-- 0x058: read of the unmapped offset 0x58. -/
  | rdUnmapped58
  /-- 0x060, mask 0x1E7: read of the unmapped REG 12 + reg. -/
  | rdUnmapped60 (reg : BitVec 2)
  /-- 0x080, mask 0x187: read of the unmapped REG 16 + reg. -/
  | rdUnmapped80 (reg : BitVec 4)
  /-- 0x110, mask 0x1F7: write to the read-only REG 2 + reg (STATUS, RESULT). -/
  | wrIgnored110 (reg : BitVec 1) (data : U64)
  /-- 0x120, mask 0x1E7: write to the read-only REG 4 + reg (OUT0 to OUT3). -/
  | wrIgnored120 (reg : BitVec 2) (data : U64)
  /-- 0x140, mask 0x1C7: write to the read-only or unmapped REG 8 + reg. -/
  | wrIgnored140 (reg : BitVec 3) (data : U64)
  /-- 0x180, mask 0x187: write to the unmapped REG 16 + reg. -/
  | wrIgnored180 (reg : BitVec 4) (data : U64)
  /-- 0x001, mask 0x001: ALN = xx1; `hi` is bits 8:1 of the code. -/
  | notAdmitted1 (hi : BitVec 8) (data : U64)
  /-- 0x002, mask 0x003: ALN = x10; `hi` is bits 8:2 of the code. -/
  | notAdmitted2 (hi : BitVec 7) (data : U64)
  /-- 0x004, mask 0x007: ALN = 100; `hi` is bits 8:3 of the code. -/
  | notAdmitted4 (hi : BitVec 6) (data : U64)
  -- CMD: command words (R67, R68)
  /-- The word 0. -/
  | nop
  /-- The word 1. -/
  | convert
  /-- Every other word (R69). -/
  | reservedCmd (word : U64)
  -- UOP: micro-operations (R70, R71)
  | idle
  | decompose
  | special
  | bounds
  | normw
  | pinit
  | pwalk
  | mulw
  | mulu
  | mull
  | setup
  | dgint
  | dgfrac
  | round
  | emit
  /-- Code 0xF (R71). -/
  | reservedUop
  deriving DecidableEq, Repr

/-- The three encoded forms (R63). -/
inductive Format where
  /-- A host-port access: 9-bit access code and 64-bit DATA. -/
  | hacc
  /-- A 64-bit command word. -/
  | cmd
  /-- A 4-bit STATE code. -/
  | uop
  deriving DecidableEq, Repr

/-- An encoded instruction: its format's bits. -/
inductive Enc where
  /-- HACC (R64): bit 8 W, bits 7:3 REG, bits 2:0 ALN; and DATA. -/
  | hacc (code : BitVec 9) (data : U64)
  /-- CMD (R67). -/
  | cmd (word : U64)
  /-- UOP (R70). -/
  | uop (code : BitVec 4)
  deriving DecidableEq, Repr

/-- The format of an encoded instruction. -/
def Enc.format : Enc → Format
  | .hacc _ _ => .hacc
  | .cmd _ => .cmd
  | .uop _ => .uop

end Sys2Proof
end

