-- ==== Sys2Proof/Machine/State.lean ====
section
/-! DEFINITION. The machine's state (10_state.md), the inputs from outside it, the reasons a step stops, and the state after
reset (R44). Names are those of the spec's registers. -/

namespace Sys2Proof.Machine

/-- CLS: the classification of the input, "{Finite, Zero, Infinite, NaN}" (R30). -/
inductive Cls where
  | finite
  | zero
  | infinite
  | nan
  deriving DecidableEq, Repr

/-- The two-bit code of a class: "0 FINITE, 1 ZERO, 2 INFINITE, 3 NAN" (R30). -/
def Cls.code : Cls → BitVec 2
  | .finite => 0
  | .zero => 1
  | .infinite => 2
  | .nan => 3

/-- A register pair holding a decomposed value: a u64 mantissa and an s32 exponent, value `m * 2^e` (R15, R28). -/
structure Dec where
  m : U64
  e : S32
  deriving DecidableEq, Repr

/-- An input from outside the sequencer's own stepping, or the sequencer's turn (R17, R56). Log 1. -/
inductive Event where
  /-- The host performs a port access `bits` wide with this access code and DATA (20_memory.md R49, 30_encoding.md R64). -/
  | access (bits : Nat) (code : BitVec 9) (data : U64)
  /-- The host writes this command word to CMD, seen as a CMD-format word (30_encoding.md R67). Log 15. -/
  | command (word : U64)
  /-- The sequencer takes a turn (47_top_level.md R134). -/
  | turn
  /-- Reset is asserted (70_reset_and_hazards.md R162). -/
  | reset
  deriving DecidableEq, Repr

structure State where
  /-- IN (R19). -/
  inReg : U64
  /-- X (R26). -/
  x : U64
  /-- STATUS.BUSY (R21). -/
  busy : Bool
  /-- STATUS.DONE (R21). -/
  done : Bool
  /-- STATUS.FAULT (R21). -/
  fault : Bool
  /-- STATUS.CMD_ERR (R21). -/
  cmdErr : Bool
  /-- STATUS.CAUSE (R21, 60_exceptions.md R145). -/
  cause : BitVec 4
  /-- CLS, visible as STATUS.CLASS (R30). -/
  cls : Cls
  /-- NEG, visible as STATUS.NEG (R29). -/
  neg : Bool
  /-- STATE, the sequencer's program counter (R37). -/
  stateCode : BitVec 4
  /-- FM and FE (R27). -/
  f : Dec
  /-- WM and WE (R28). -/
  w : Dec
  /-- UM and UE (R28). -/
  u : Dec
  /-- LM and LE (R28). -/
  l : Dec
  /-- CPM and CPE (R31). -/
  cp : Dec
  /-- IDX (R31). -/
  idx : S8
  /-- KDEC (R31). -/
  kdec : S32
  /-- S, the fractional cut (R32). -/
  cut : BitVec 6
  /-- P1 (R33). -/
  p1 : U64
  /-- P2 (R33). -/
  p2 : U64
  /-- DELTA (R34). -/
  delta : U64
  /-- WFRAC (R34). -/
  wfrac : U64
  /-- WSC (R34). -/
  wsc : U64
  /-- KAPPA (R35). -/
  kappa : S32
  /-- KEXP, visible as RESULT.KEXP (R35). -/
  kexp : S32
  /-- REM (R36). -/
  rem : U64
  /-- UNIT (R36). -/
  unit : U64
  /-- DIG[0..17] (R38). -/
  dig : Vector Byte 18
  /-- NDIG, visible as RESULT.NDIG (R38). -/
  ndig : BitVec 5
  /-- OUT[0..24] (R39). -/
  out : Vector Byte 25
  /-- OUT_LEN, visible as RESULT.OUT_LEN (R39). -/
  outLen : BitVec 5
  /-- The MODEL's own: what happens next, oldest first; after the last of it every turn is the sequencer's. Log 1. -/
  pending : List Event
  /-- The MODEL's own: the DATA lane of the last host read (30_encoding.md R64). Log 16. -/
  readData : U64
  /-- The MODEL's own: advanced by every step; the free values of Config are applied to it. Log 5. -/
  tick : Nat
  deriving DecidableEq, Repr

/-- Why the model takes no step. The hardware's own guard faults are no member: they are next states (60_exceptions.md R146). -/
inductive Fault where
  /-- Raised by the three NOT_ADMITTED forms, and by a step in which no agent has a step: the host is stuck at an access that is not
  admitted, "The model gives it no step, so the host is stuck" (60_exceptions.md R153, 20_memory.md R49), and the sequencer is in
  IDLE (47_top_level.md R135). Safe. Log 8. -/
  | hostStuck
  /-- Raised by RESERVED_UOP: "A model gives a sequencer at 0xF no step" (30_encoding.md R71). Safe: unreachable. -/
  | sequencerStuck
  deriving DecidableEq, Repr

/-- Why the model has no meaning for an instruction. -/
inductive Refusal where
  /-- Raised by an arm of exec whose instruction has no meaning yet (at present none). Safe. -/
  | notModelled (mnemonic : String)
  deriving DecidableEq, Repr

/-- OUT after a reset: "A model gives the unspecified bytes of OUT and DIG a free value (a draw)" (R44), one for each byte and each
draw. Logs 3, 4. -/
def freshOut (draw : Nat) : Vector Byte 25 := Vector.ofFn fun i => Config.resetOutByte draw i.val

/-- DIG after a reset, likewise (R44). -/
def freshDig (draw : Nat) : Vector Byte 18 := Vector.ofFn fun i => Config.resetDigByte draw i.val

/-- The state right after reset (R44). OUT and DIG hold free values; the other registers R44 calls unspecified hold 0, and KAPPA 10:
log 3, DESIGN CHOICE, unsafe. -/
def State.reset : State where
  inReg := 0
  x := 0
  busy := false
  done := false
  fault := false
  cmdErr := false
  cause := 0
  cls := .finite
  neg := false
  stateCode := 0
  f := ⟨0, 0⟩
  w := ⟨0, 0⟩
  u := ⟨0, 0⟩
  l := ⟨0, 0⟩
  cp := ⟨0, 0⟩
  idx := 0
  kdec := 0
  cut := 0
  p1 := 0
  p2 := 0
  delta := 0
  wfrac := 0
  wsc := 0
  kappa := 10
  kexp := 0
  rem := 0
  unit := 0
  dig := freshDig 0
  ndig := 0
  out := freshOut 0
  outLen := 0
  pending := []
  readData := 0
  tick := 0

end Sys2Proof.Machine
end

