-- ==== Sys2Proof/Machine/Ops.lean ====
section
/-! DEFINITION. The shared operations: narrowing to a register, the STATE codes, raising a guard fault, completing a conversion, the
command operations, returning read data, and the digit and output buffers. -/

namespace Sys2Proof.Machine

/-- What one instruction answers. -/
abbrev Result := Host.Outcome State Fault Refusal

/-! ### Arithmetic (00_scope.md R12): exact on integers, narrowed where a register is written. Log 11. -/

/-- Narrow to a u64 register. -/
def toU64 (n : Int) : U64 := BitVec.ofInt 64 n
/-- Narrow to an s32 register. -/
def toS32 (n : Int) : S32 := BitVec.ofInt 32 n
/-- Narrow to the s8 register IDX. -/
def toS8 (n : Int) : S8 := BitVec.ofInt 8 n
/-- Narrow to the u6 register S. -/
def toU6 (n : Int) : BitVec 6 := BitVec.ofInt 6 n
/-- Narrow to a u5 register (NDIG, OUT_LEN). -/
def toU5 (n : Nat) : BitVec 5 := BitVec.ofNat 5 n

/-- A register pair from an exact mantissa and exponent. -/
def toDec (p : Int × Int) : Dec := ⟨toU64 p.1, toS32 p.2⟩

/-- "the number of bits of m without leading zeros" (42_boundary.md R81). -/
def bitlen (m : Nat) : Nat := if m = 0 then 0 else Nat.log2 m + 1

/-- "trunc0 truncates toward zero" (43_cached_power.md R91). -/
def trunc0 (a b : Int) : Int := Int.tdiv a b

/-- `a div b` (R12); R12 defines it for b > 0, so a free value for b = 0 (log 12). -/
def quot (a b : Nat) : Nat := if b = 0 then Config.quotByZero a else a / b

/-- `ascii('0') + d` as a stored byte (00_scope.md R14). -/
def digitByte (d : Nat) : Byte := BitVec.ofNat 8 (0x30 + d)

/-! ### STATE codes (30_encoding.md R70) -/

namespace Uop
abbrev idle : BitVec 4 := 0x0
abbrev decompose : BitVec 4 := 0x1
abbrev special : BitVec 4 := 0x2
abbrev bounds : BitVec 4 := 0x3
abbrev normw : BitVec 4 := 0x4
abbrev pinit : BitVec 4 := 0x5
abbrev pwalk : BitVec 4 := 0x6
abbrev mulw : BitVec 4 := 0x7
abbrev mulu : BitVec 4 := 0x8
abbrev mull : BitVec 4 := 0x9
abbrev setup : BitVec 4 := 0xA
abbrev dgint : BitVec 4 := 0xB
abbrev dgfrac : BitVec 4 := 0xC
abbrev round : BitVec 4 := 0xD
abbrev emit : BitVec 4 := 0xE
end Uop

/-! ### Guard faults (60_exceptions.md R144 to R149) -/

/-- The fault causes (R145). -/
inductive FaultCause where
  | tableRange
  | digitOverflow
  | roundUnderflow
  | outputOverflow
  | noDigits
  deriving DecidableEq, Repr

/-- The code a cause has in STATUS.CAUSE (R145). -/
def causeCode : FaultCause → BitVec 4
  | .tableRange => 1
  | .digitOverflow => 2
  | .roundUnderflow => 3
  | .outputOverflow => 4
  | .noDigits => 5

/-- `raise Fault(c)`: "makes none of the writes its rule would otherwise make. Instead, as one atomic transition" these (R146).
There is no saved return state and no return: `acceptConvert` clears FAULT and CAUSE (R149). -/
def raiseFault (c : FaultCause) (s : State) : State :=
  { s with fault := true, cause := causeCode c, busy := false, done := false, stateCode := Uop.idle }

/-! ### Commands and completion (47_top_level.md) -/

/-- CONVERT acceptance (R128). -/
def acceptConvert (s : State) : State :=
  { s with
    x := s.inReg, done := false, fault := false, cause := 0, cmdErr := false, busy := true, stateCode := Uop.decompose }

/-- A rejected command word: CMD_ERR only (R129, R130, 60_exceptions.md R151). -/
def rejectCommand (s : State) : State := { s with cmdErr := true }

/-- The CONVERT word: accepted when BUSY = 0, rejected when BUSY = 1 (R127, R128, R130). -/
def convertCommand (s : State) : State := if s.busy then rejectCommand s else acceptConvert s

/-- A write of `v` to CMD, "decoded at once, in the same atomic host step" (R127). -/
def writeCommand (v : U64) (s : State) : State :=
  if v = 0 then s else if v = 1 then convertCommand s else rejectCommand s

/-- `Complete()` (R136). -/
def complete (s : State) : State := { s with busy := false, done := true, stateCode := Uop.idle }

/-- A host read returns `v` on DATA and changes no register (20_memory.md R51). -/
def returnData (v : U64) (s : State) : State := { s with readData := v }

/-- `next <- S` (R13). -/
def goto (code : BitVec 4) (s : State) : State := { s with stateCode := code }

/-! ### The digit buffer (10_state.md R38, 45_digit_generator.md R107) -/

/-- DIG[i]; a byte past the buffer does not exist and is a free value (log 12). -/
def digAt (s : State) (i : Nat) : Byte := if h : i < 18 then s.dig[i] else Config.digOutside s.tick i

/-- `DIG[i] <- b`; a byte past the buffer does not exist, so nothing is written (log 12). -/
def writeDig (i : Nat) (b : Byte) (s : State) : State := { s with dig := s.dig.setIfInBounds i b }

/-- `DIG[0..n-1]`. -/
def digits (s : State) (n : Nat) : List Byte := (List.range n).map (digAt s)

/-- `Append(d)` (R107): none is `raise Fault(DIGIT_OVERFLOW)`. -/
def appendDigit (d : Nat) (s : State) : Option State :=
  if d ≠ 0 ∨ s.ndig ≠ 0 then
    if s.ndig = 18 then none
    else some { writeDig s.ndig.toNat (digitByte d) s with ndig := s.ndig + 1 }
  else some s

/-! ### The output buffer (R39, 46_emitter.md R124) -/

/-- `OUT[i] <- text[0]; OUT[i+1] <- text[1]; …`. -/
def writeBytes : List Byte → Nat → Vector Byte 25 → Vector Byte 25
  | [], _, v => v
  | b :: bs, i, v => writeBytes bs (i + 1) (v.setIfInBounds i b)

/-- `for i in 0 .. len(text)-1: OUT[i] <- text[i]` and `OUT_LEN <- len(text)`. -/
def writeText (text : List Byte) (s : State) : State :=
  { s with out := writeBytes text 0 s.out, outLen := toU5 text.length }

end Sys2Proof.Machine
end

