-- ==== Sys2Proof/Machine/Boundary.lean ====
section
/-! DEFINITION. The Boundary Calculator and normalization: 42_boundary.md R81 to R86. -/

namespace Sys2Proof.Machine

/-- `Norm(m, e)` for 0 < m < 2^64 (R81); outside, a free value (log 12). -/
def norm (m : Nat) (e : Int) : Nat × Int :=
  if 0 < m ∧ m < 2 ^ 64 then (m * 2 ^ (64 - bitlen m), e - (64 - bitlen m)) else Config.normOutside m e

/-- `Upper(m, e)` (R82). -/
def upper (m : Nat) (e : Int) : Nat × Int := norm (2 * m + 1) (e - 1)

/-- The shift count l of the lower boundary (R83). -/
def lowerShift (m : Nat) : Nat := if m = Config.implicitBit then 2 else 1

/-- `Lower(m, e)` (R83); where the shift `le0 - ue` is negative, the mantissa is a free value (log 12). -/
def lower (m : Nat) (e : Int) : Int × Int :=
  let ue := (upper m e).2
  let lm0 : Int := m * 2 ^ lowerShift m - 1
  let sh := e - lowerShift m - ue
  (if 0 ≤ sh then lm0 * 2 ^ sh.toNat else Config.lowerOutside m e, ue)

/-- BOUNDS (R85). -/
def execBounds (s : State) : Result :=
  let m := s.f.m.toNat
  let e := s.f.e.toInt
  .next { s with
    u := toDec ((upper m e).1, (upper m e).2)
    l := toDec (lower m e)
    stateCode := Uop.normw }

/-- NORMW (R86). -/
def execNormw (s : State) : Result :=
  let p := norm s.f.m.toNat s.f.e.toInt
  .next { s with w := toDec (p.1, p.2), stateCode := Uop.pinit }

end Sys2Proof.Machine
end

