-- ==== Sys2Proof/Machine/CachedPower.lean ====
section
/-! DEFINITION. The cached power lookup: 43_cached_power.md R90 to R95. -/

namespace Sys2Proof.Machine

/-- The significand of the binary64 value 0.30102999566398114, which is `log2Significand * 2^-54` (R91). Log 14. -/
def log2Significand : Nat := 5422874305198590

/-- Round a positive integer to 53 significant bits, to nearest with ties to even: the binary64 rounding of R91's product. Log 14. -/
def round53 (p : Nat) : Nat :=
  let d := bitlen p - 53
  let q := p / 2 ^ d
  let r := p % 2 ^ d
  (if 2 ^ d < 2 * r ∨ (2 ^ d = 2 * r ∧ q % 2 = 1) then q + 1 else q) * 2 ^ d

/-- `approx = trunc0(-(e + 87) * 0.30102999566398114)`, "an IEEE binary64 product, then truncation toward zero" (R91). -/
def log10Approx (e : Int) : Int :=
  let n := -(e + Config.powEntries)
  let t : Int := round53 (n.natAbs * log2Significand) / 2 ^ 54
  if n < 0 then -t else t

/-- `idx0 = trunc0((approx + 348) / 8)` (R91). -/
def initialIndex (e : Int) : Int := trunc0 (log10Approx e - Config.powFirstExp) Config.powExpStep

/-- PINIT (R92). -/
def execPinit (s : State) : Result := .next { s with idx := toS8 (initialIndex s.u.e.toInt), stateCode := Uop.pwalk }

/-- `cur(e, i) = e + e_i + 64` (R90). -/
def scaledExp (e : Int) (i : Nat) : Int := e + (powEntry i).2 + Config.mulExpOffset

/-- PWALK (R93). -/
def execPwalk (s : State) : Result :=
  let i := s.idx.toInt
  if i < 0 ∨ 86 < i then .next (raiseFault .tableRange s)
  else
    let c := scaledExp s.u.e.toInt i.toNat
    if c < Config.windowLo then .next { s with idx := toS8 (i + 1), stateCode := Uop.pwalk }
    else if Config.windowHi < c then .next { s with idx := toS8 (i - 1), stateCode := Uop.pwalk }
    else
      .next { s with
        cp := toDec ((powEntry i.toNat).1, (powEntry i.toNat).2)
        kdec := toS32 (powDecimal i)
        stateCode := Uop.mulw }

/-- `PowIndex(e)`: "the least i in [0, 86] with e + e_i + 64 ≥ -60", the closed form of the lookup (R94); 87 if there is none. No
meaning uses it: R94 says it equals what PINIT and PWALK find. -/
def powIndex (e : Int) : Nat := (List.range Config.powEntries).findIdx fun i => Config.windowLo ≤ scaledExp e i

end Sys2Proof.Machine
end

