-- ==== Sys2Proof/Machine/Command.lean ====
section
/-! DEFINITION. The command words (CMD): 47_top_level.md R127 to R131. -/

namespace Sys2Proof.Machine

/-- NOP: "changes no state, CMD_ERR included, in any state" (R131). -/
def execNop (s : State) : Result := .next s

/-- CONVERT: accepted when BUSY = 0 (R128), rejected with CMD_ERR when BUSY = 1 (R130). -/
def execConvert (s : State) : Result := .next (convertCommand s)

/-- RESERVED_CMD: "sets STATUS.CMD_ERR <- 1 and changes nothing else" (R129). -/
def execReservedCmd (s : State) : Result := .next (rejectCommand s)

end Sys2Proof.Machine
end

