-- ==== Sys2Proof/Machine/Flags.lean ====
section
/-! DEFINITION. The STATUS word (10_state.md R21). FPDEC has no condition codes and no arithmetic flags (R42). -/

namespace Sys2Proof.Machine

/-- A one-bit field. -/
def bit (b : Bool) : BitVec 1 := BitVec.ofBool b

/-- STATUS: bits 63:20 reserved, 19:16 STATE, 15:11 reserved, 10 NEG, 9:8 CLASS, 7:4 CAUSE, 3 CMD_ERR, 2 FAULT, 1 DONE, 0 BUSY
(R21). "Bits not listed read 0". -/
def statusWord (s : State) : U64 :=
  0#44 ++ s.stateCode ++ 0#5 ++ bit s.neg ++ s.cls.code ++ s.cause ++ bit s.cmdErr ++ bit s.fault ++ bit s.done ++ bit s.busy

/-- When a host read of RESULT, OUT or DIG returns an unspecified value: while BUSY = 1 (20_memory.md R58) or after a fault
(60_exceptions.md R148). Log 7. -/
def resultsUnspecified (s : State) : Bool := s.busy || s.fault

end Sys2Proof.Machine
end

