-- ==== Sys2Proof/Machine/Operands.lean ====
section
/-! DEFINITION. The operand forms: the fields of the input X (41_decomposer.md R75) and the registers a host read returns
(10_state.md R18 to R24). -/

namespace Sys2Proof.Machine

/-! ### The input's fields (R75): "zero-extended, never sign-extended" (30_encoding.md R66) -/

/-- SIGN, bit 63. -/
def signOf (x : U64) : Bool := x.getLsbD 63
/-- BEXP, bits 62:52. -/
def bexpOf (x : U64) : Nat := (x.extractLsb' 52 11).toNat
/-- FRAC, bits 51:0. -/
def fracOf (x : U64) : Nat := (x.extractLsb' 0 52).toNat

/-! ### Registers read by the host -/

/-- Eight bytes as a register, byte 0 in bits 7:0 (20_memory.md R47). -/
def packBytes (b : Nat → Byte) : U64 := b 7 ++ b 6 ++ b 5 ++ b 4 ++ b 3 ++ b 2 ++ b 1 ++ b 0

/-- Byte position i of OUT0..OUT3 as the host reads it: positions 25 to 31 read 0 (R23); a byte is a free value of its own for each read while
results are unspecified (logs 5, 6, 7), and otherwise the register's, so that reads repeat (20_memory.md R52). -/
def hostOutByte (s : State) (i : Nat) : Byte :=
  if h : i < 25 then (if resultsUnspecified s then Config.freeOutByte s.tick i else s.out[i]) else 0

/-- Byte position i of DIG0..DIG2 as the host reads it: positions 18 to 23 read 0 (R24). -/
def hostDigByte (s : State) (i : Nat) : Byte :=
  if h : i < 18 then (if resultsUnspecified s then Config.freeDigByte s.tick i else s.dig[i]) else 0

/-- OUTj: bytes 8j .. 8j+7 (R23, 47_top_level.md R142). -/
def outWord (j : Nat) (s : State) : U64 := packBytes fun k => hostOutByte s (8 * j + k)

/-- DIGj: bytes 8j .. 8j+7 (R24, R142). -/
def digWord (j : Nat) (s : State) : U64 := packBytes fun k => hostDigByte s (8 * j + k)

/-- RESULT from its fields: 63:32 KEXP, 31:13 reserved, 12:8 NDIG, 7:5 reserved, 4:0 OUT_LEN (R22). -/
def packResult (kexp : S32) (ndig outLen : BitVec 5) : U64 := kexp ++ 0#19 ++ ndig ++ 0#3 ++ outLen

/-- RESULT as the host reads it (R141); its fields are free values while results are unspecified (logs 5, 6, 7). -/
def resultWord (s : State) : U64 :=
  if resultsUnspecified s then packResult (Config.freeKexp s.tick) (Config.freeNdig s.tick) (Config.freeOutLen s.tick)
  else packResult s.kexp s.ndig s.outLen

end Sys2Proof.Machine
end

