-- ==== Sys2Proof/Machine/Decomposer.lean ====
section
/-! DEFINITION. The Decomposer: 41_decomposer.md R75 to R80. -/

namespace Sys2Proof.Machine

/-- `Classify(BEXP, FRAC)` (R76). -/
def classify (bexp frac : Nat) : Cls :=
  if bexp = 0 then (if frac = 0 then .zero else .finite)
  else if bexp = 0x7FF then (if frac = 0 then .infinite else .nan)
  else .finite

/-- `Extract(BEXP, FRAC)` for class FINITE (R77). -/
def extract (bexp frac : Nat) : Int × Int :=
  if bexp = 0 then (frac, 1 - Config.exponentBias) else (frac + Config.implicitBit, bexp - Config.exponentBias)

/-- FM and FE of the other classes (R78). -/
def otherDec (c : Cls) (bexp frac : Nat) : Int × Int :=
  match c with
  | .zero => (0, 1 - Config.exponentBias)
  | .infinite | .nan | .finite => (frac, bexp - Config.exponentBias)

/-- DECOMPOSE (R80). -/
def execDecompose (s : State) : Result :=
  let bexp := bexpOf s.x
  let frac := fracOf s.x
  let c := classify bexp frac
  .next { s with
    neg := signOf s.x
    cls := c
    f := toDec (if c = .finite then extract bexp frac else otherDec c bexp frac)
    stateCode := if c = .finite then Uop.bounds else Uop.special }

end Sys2Proof.Machine
end

