-- ==== Sys2Proof/Machine/DigitGenerator.lean ====
section
/-! DEFINITION. The Digit Generator and the Rounding Correction: 45_digit_generator.md R104 to R112. Arithmetic is exact on integers
and narrowed where a register is written (logs 11, 12). -/

namespace Sys2Proof.Machine

/-- P1 and P2 of the narrowed upper boundary `u` and the exponent `ue` (R105): `u >> (-ue)` and `u mod 2^(-ue)`; where -ue is
negative, free values (log 12). -/
def splitAtCut (u ue : Int) : Int × Int :=
  if 0 ≤ -ue then (u / 2 ^ (-ue).toNat, u % 2 ^ (-ue).toNat) else Config.splitOutside u ue

/-- SETUP (R105). -/
def execSetup (s : State) : Result :=
  let u : Int := s.u.m.toNat - 1
  let l : Int := s.l.m.toNat + 1
  let ue := s.u.e.toInt
  .next { s with
    u := ⟨toU64 u, s.u.e⟩
    l := ⟨toU64 l, s.l.e⟩
    kexp := toS32 (-s.kdec.toInt)
    wfrac := toU64 (u - s.w.m.toNat)
    delta := toU64 (u - l)
    wsc := toU64 (u - s.w.m.toNat)
    cut := toU6 (-ue)
    p1 := toU64 (splitAtCut u ue).1
    p2 := toU64 (splitAtCut u ue).2
    kappa := toS32 Config.kappaStart
    ndig := 0
    stateCode := Uop.dgint }

/-- DGINT (R106). -/
def execDgint (s : State) : Result :=
  let div := tens (s.kappa.toInt - 1)
  let d := quot s.p1.toNat div
  match appendDigit d s with
  | none => .next (raiseFault .digitOverflow s)
  | some a =>
    let p1 : Int := s.p1.toNat - d * div
    let k := s.kappa.toInt - 1
    let tmp : Int := p1 * 2 ^ s.cut.toNat + s.p2.toNat
    if tmp ≤ s.delta.toNat then
      .next { a with
        p1 := toU64 p1
        kappa := toS32 k
        kexp := toS32 (s.kexp.toInt + k)
        rem := toU64 tmp
        unit := toU64 (div * 2 ^ s.cut.toNat)
        wsc := s.wfrac
        stateCode := Uop.round }
    else
      .next { a with
        p1 := toU64 p1
        kappa := toS32 k
        stateCode := if k = 0 then Uop.dgfrac else Uop.dgint }

/-- DGFRAC (R108). -/
def execDgfrac (s : State) : Result :=
  let p2x := s.p2.toNat * 10
  let dl := s.delta.toNat * 10
  let ws := s.wsc.toNat * 10
  let k := s.kappa.toInt - 1
  let d := p2x / 2 ^ s.cut.toNat
  match appendDigit d s with
  | none => .next (raiseFault .digitOverflow s)
  | some a =>
    let p2 := p2x % 2 ^ s.cut.toNat
    if p2 < dl then
      .next { a with
        p2 := toU64 p2
        delta := toU64 dl
        wsc := toU64 ws
        kappa := toS32 k
        kexp := toS32 (s.kexp.toInt + k)
        rem := toU64 p2
        unit := toU64 (2 ^ s.cut.toNat)
        stateCode := Uop.round }
    else
      .next { a with
        p2 := toU64 p2
        delta := toU64 dl
        wsc := toU64 ws
        kappa := toS32 k
        stateCode := Uop.dgfrac }

/-- The three tests of the Rounding Correction (R110, R111): the remainder is below wfrac, at least one unit of headroom is left, and
a decrement strictly improves the absolute error. -/
def roundsDown (rem unit wsc delta : Int) : Bool :=
  rem < wsc && unit ≤ delta - rem && ((rem + unit - wsc).natAbs : Int) < wsc - rem

/-- ROUND (R110). -/
def execRound (s : State) : Result :=
  let last := s.ndig.toNat - 1
  if s.ndig = 0 then .next (raiseFault .noDigits s)
  else if roundsDown s.rem.toNat s.unit.toNat s.wsc.toNat s.delta.toNat then
    if digAt s last = 0x30 then .next (raiseFault .roundUnderflow s)
    else
      .next { writeDig last (digAt s last - 1) s with
        rem := toU64 (s.rem.toNat + s.unit.toNat)
        stateCode := Uop.round }
  else .next (goto Uop.emit s)

end Sys2Proof.Machine
end

