-- ==== Sys2Proof/Machine/Emitter.lean ====
section
/-! DEFINITION. The Emitter: 46_emitter.md R115 to R124. A text is a list of ASCII bytes (00_scope.md R14). -/

namespace Sys2Proof.Machine

namespace Ascii
abbrev zero : Byte := 0x30
abbrev dot : Byte := 0x2E
abbrev minus : Byte := 0x2D
abbrev plus : Byte := 0x2B
abbrev lowerE : Byte := 0x65
abbrev upperN : Byte := 0x4E
abbrev lowerA : Byte := 0x61
abbrev upperI : Byte := 0x49
abbrev lowerN : Byte := 0x6E
abbrev lowerF : Byte := 0x66
end Ascii

/-- The three layouts (R116). -/
inductive Layout where
  | plain
  | fixed
  | scientific
  deriving DecidableEq, Repr

/-- `exp = |K + n - 1|`, "computed on the uncapped n" (R116). -/
def expMagnitude (n : Nat) (k : Int) : Nat := (k + n - 1).natAbs

/-- Layout selection, tests "evaluated in order" (R116). -/
def selectLayout (n : Nat) (k : Int) : Layout :=
  if 0 ≤ k ∧ expMagnitude n k < n + 7 then .plain
  else if k < 0 ∧ (-7 < k ∨ expMagnitude n k < 4) then .fixed
  else .scientific

/-- PLAIN (R117). -/
def plainText (d : List Byte) (k : Int) : List Byte := d ++ List.replicate k.toNat Ascii.zero

/-- FIXED (R118 for off ≤ 0, R119 for off ≥ 1). -/
def fixedText (d : List Byte) (n : Nat) (k : Int) : List Byte :=
  let off : Int := n + k
  if off ≤ 0 then [Ascii.zero, Ascii.dot] ++ List.replicate (-off).toNat Ascii.zero ++ d
  else d.take off.toNat ++ [Ascii.dot] ++ d.drop off.toNat

/-- `ExpDigits(x)` (R121). -/
def expDigits (x : Nat) : List Byte :=
  (if 99 < x then [digitByte (x / 100)] else [])
    ++ (if 9 < x ∨ 99 < x then [digitByte (x / 10 % 10)] else [])
    ++ [digitByte (x % 10)]

/-- "cap emitted digits to at most 18 − (1 if negative else 0)" (R120). -/
def cappedDigits (n : Nat) (neg : Bool) : Nat := min n (18 - (if neg then 1 else 0))

/-- SCIENTIFIC (R120): the sign from the capped count, the magnitude from the uncapped one. -/
def scientificText (d : List Byte) (n : Nat) (k : Int) (neg : Bool) : List Byte :=
  let nc := cappedDigits n neg
  d.take 1
    ++ (if 1 < nc then Ascii.dot :: (d.take nc).drop 1 else [])
    ++ [Ascii.lowerE, if k + nc - 1 < 0 then Ascii.minus else Ascii.plus]
    ++ expDigits (expMagnitude n k)

/-- `Layout(D, n, K, neg)`: the bytes after the sign (R115). -/
def layoutText (d : List Byte) (n : Nat) (k : Int) (neg : Bool) : List Byte :=
  match selectLayout n k with
  | .plain => plainText d k
  | .fixed => fixedText d n k
  | .scientific => scientificText d n k neg

/-- "-" when negative (R123). -/
def signText (neg : Bool) : List Byte := if neg then [Ascii.minus] else []

/-- The text of a FINITE value (R123). -/
def finiteText (d : List Byte) (n : Nat) (k : Int) (neg : Bool) : List Byte := signText neg ++ layoutText d n k neg

/-- EMIT (R124): its checks come before any write. -/
def execEmit (s : State) : Result :=
  let n := s.ndig.toNat
  let k := s.kexp.toInt
  let text := finiteText (digits s n) n k s.neg
  if s.ndig = 0 then .next (raiseFault .noDigits s)
  else if 999 < expMagnitude n k then .next (raiseFault .outputOverflow s)
  else if 25 < text.length then .next (raiseFault .outputOverflow s)
  else .next (complete (writeText text s))

end Sys2Proof.Machine
end

