-- ==== Sys2Proof/Machine/HostPort.lean ====
section
/-! DEFINITION. The host accesses (HACC): 47_top_level.md R139 to R143, 20_memory.md R49. A read returns its value on DATA and
changes nothing else (R51). -/

namespace Sys2Proof.Machine

/-- RD_IN: "the last value written to IN, or 0 after reset" (R139). -/
def execRdIn (s : State) : Result := .next (returnData s.inReg s)

/-- WR_IN: "sets IN <- v, in any state, and changes nothing else" (R140). -/
def execWrIn (v : U64) (s : State) : Result := .next { s with inReg := v }

/-- RD_CMD: "A read of CMD (offset 0x08) returns 0" (R139). -/
def execRdCmd (s : State) : Result := .next (returnData 0 s)

/-- WR_CMD: DATA is decoded as a command word (R127). -/
def execWrCmd (v : U64) (s : State) : Result := .next (writeCommand v s)

/-- RD_STATUS: "returns the fields of 10_state.md rule R21 from the current state" (R141). -/
def execRdStatus (s : State) : Result := .next (returnData (statusWord s) s)

/-- RD_RESULT (R141). -/
def execRdResult (s : State) : Result := .next (returnData (resultWord s) s)

/-- RD_OUT0 (R142). -/
def execRdOut0 (s : State) : Result := .next (returnData (outWord 0 s) s)
/-- RD_OUT1 (R142). -/
def execRdOut1 (s : State) : Result := .next (returnData (outWord 1 s) s)
/-- RD_OUT2 (R142). -/
def execRdOut2 (s : State) : Result := .next (returnData (outWord 2 s) s)
/-- RD_OUT3 (R142). -/
def execRdOut3 (s : State) : Result := .next (returnData (outWord 3 s) s)

/-- RD_DIG0 (R142). -/
def execRdDig0 (s : State) : Result := .next (returnData (digWord 0 s) s)
/-- RD_DIG1 (R142). -/
def execRdDig1 (s : State) : Result := .next (returnData (digWord 1 s) s)
/-- RD_DIG2 (R142). -/
def execRdDig2 (s : State) : Result := .next (returnData (digWord 2 s) s)

/-- RD_UNMAPPED, offset 0x58: "returns 0" (R143). -/
def execRdUnmapped58 (s : State) : Result := .next (returnData 0 s)
/-- RD_UNMAPPED, offsets 0x60 to 0x78: "returns 0" (R143). -/
def execRdUnmapped60 (s : State) : Result := .next (returnData 0 s)
/-- RD_UNMAPPED, offsets 0x80 to 0xF8: "returns 0" (R143). -/
def execRdUnmapped80 (s : State) : Result := .next (returnData 0 s)

/-- WR_IGNORED, STATUS and RESULT: "Neither changes state or sets CMD_ERR" (R143). -/
def execWrIgnored110 (s : State) : Result := .next s
/-- WR_IGNORED, OUT0 to OUT3: ignored (R143). -/
def execWrIgnored120 (s : State) : Result := .next s
/-- WR_IGNORED, DIG0 to DIG2 and offsets 0x58 to 0x78: ignored (R143). -/
def execWrIgnored140 (s : State) : Result := .next s
/-- WR_IGNORED, offsets 0x80 to 0xF8: ignored (R143). -/
def execWrIgnored180 (s : State) : Result := .next s

/-- NOT_ADMITTED, ALN = xx1: "The model gives such an access no step: the host is stuck" (R49). Log 8. -/
def execNotAdmitted1 (_s : State) : Result := .fault .hostStuck
/-- NOT_ADMITTED, ALN = x10 (R49). -/
def execNotAdmitted2 (_s : State) : Result := .fault .hostStuck
/-- NOT_ADMITTED, ALN = 100 (R49). -/
def execNotAdmitted4 (_s : State) : Result := .fault .hostStuck

end Sys2Proof.Machine
end

