-- ==== Sys2Proof/Machine/Multiplier.lean ====
section
/-! DEFINITION. The fixed-point multiplier: 44_multiplier.md R96 to R102. -/

namespace Sys2Proof.Machine

/-- The product's mantissa: "hi + lo[63]" (R96). -/
def mulMant (am bm : Nat) : Nat :=
  let p := am * bm
  p / 2 ^ 64 + (if 2 ^ 63 ≤ p % 2 ^ 64 then 1 else 0)

/-- `Mul((am, ae), (bm, be))` (R96). -/
def mul (a b : Dec) : Dec :=
  toDec (mulMant a.m.toNat b.m.toNat, a.e.toInt + b.e.toInt + Config.mulExpOffset)

/-- The 32-bit formulation of the mantissa (R97). No meaning uses it: R96 and R97 "must be numerically equivalent" (R10). -/
def mulMantSplit (am bm : Nat) : Nat :=
  let ah := am / 2 ^ 32
  let al := am % 2 ^ 32
  let bh := bm / 2 ^ 32
  let bl := bm % 2 ^ 32
  let t := (ah * bl) % 2 ^ 32 + (al * bh) % 2 ^ 32 + (al * bl) / 2 ^ 32 + 2 ^ 31
  ah * bh + (ah * bl) / 2 ^ 32 + (al * bh) / 2 ^ 32 + t / 2 ^ 32

/-- MULW (R100). -/
def execMulw (s : State) : Result := .next { s with w := mul s.w s.cp, stateCode := Uop.mulu }

/-- MULU (R101). -/
def execMulu (s : State) : Result := .next { s with u := mul s.u s.cp, stateCode := Uop.mull }

/-- MULL (R102). -/
def execMull (s : State) : Result := .next { s with l := mul s.l s.cp, stateCode := Uop.setup }

end Sys2Proof.Machine
end

