-- ==== Sys2Proof/Machine/TopLevel.lean ====
section
/-! DEFINITION. The top level: SPECIAL, IDLE and the reserved STATE code (47_top_level.md R132 to R135, 30_encoding.md R71). -/

namespace Sys2Proof.Machine

/-- `SpecialText(CLS, NEG)` (R132). SPECIAL "reads CLS (≠ FINITE)"; with CLS = FINITE, which no conversion brings to SPECIAL, the
case expression has no row and the text is a free value of at most 25 bytes (log 12). -/
def specialText (c : Cls) (neg : Bool) (free : List Byte) : List Byte :=
  match c with
  | .nan => [Ascii.upperN, Ascii.lowerA, Ascii.upperN]
  | .infinite => signText neg ++ [Ascii.upperI, Ascii.lowerN, Ascii.lowerF]
  | .zero => signText neg ++ [Ascii.zero]
  | .finite => free

/-- SPECIAL (R132). -/
def execSpecial (s : State) : Result :=
  .next (complete { writeText (specialText s.cls s.neg ((Config.specialOutside s.tick).take Config.outCapacity)) s with ndig := 0, kexp := 0 })

/-- IDLE: "the sequencer takes no step", so nothing changes (R135). Log 10. -/
def execIdle (s : State) : Result := .next s

/-- RESERVED_UOP: "A model gives a sequencer at 0xF no step" (R71). Log 9. -/
def execReservedUop (_s : State) : Result := .fault .sequencerStuck

end Sys2Proof.Machine
end

