-- ==== Sys2Proof/Machine/Dispatch.lean ====
section
/-! DEFINITION. The meaning of every instruction: one arm for each constructor of Instr. -/

namespace Sys2Proof.Machine

def exec (i : Instr) (s : State) : Host.Outcome State Fault Refusal :=
  match i with
  | .rdIn => Sys2Proof.Machine.execRdIn s
  | .wrIn data => Sys2Proof.Machine.execWrIn data s
  | .rdCmd => Sys2Proof.Machine.execRdCmd s
  | .wrCmd data => Sys2Proof.Machine.execWrCmd data s
  | .rdStatus => Sys2Proof.Machine.execRdStatus s
  | .rdResult => Sys2Proof.Machine.execRdResult s
  | .rdOut0 => Sys2Proof.Machine.execRdOut0 s
  | .rdOut1 => Sys2Proof.Machine.execRdOut1 s
  | .rdOut2 => Sys2Proof.Machine.execRdOut2 s
  | .rdOut3 => Sys2Proof.Machine.execRdOut3 s
  | .rdDig0 => Sys2Proof.Machine.execRdDig0 s
  | .rdDig1 => Sys2Proof.Machine.execRdDig1 s
  | .rdDig2 => Sys2Proof.Machine.execRdDig2 s
  | .rdUnmapped58 => Sys2Proof.Machine.execRdUnmapped58 s
  | .rdUnmapped60 _ => Sys2Proof.Machine.execRdUnmapped60 s
  | .rdUnmapped80 _ => Sys2Proof.Machine.execRdUnmapped80 s
  | .wrIgnored110 _ _ => Sys2Proof.Machine.execWrIgnored110 s
  | .wrIgnored120 _ _ => Sys2Proof.Machine.execWrIgnored120 s
  | .wrIgnored140 _ _ => Sys2Proof.Machine.execWrIgnored140 s
  | .wrIgnored180 _ _ => Sys2Proof.Machine.execWrIgnored180 s
  | .notAdmitted1 _ _ => Sys2Proof.Machine.execNotAdmitted1 s
  | .notAdmitted2 _ _ => Sys2Proof.Machine.execNotAdmitted2 s
  | .notAdmitted4 _ _ => Sys2Proof.Machine.execNotAdmitted4 s
  | .nop => Sys2Proof.Machine.execNop s
  | .convert => Sys2Proof.Machine.execConvert s
  | .reservedCmd _ => Sys2Proof.Machine.execReservedCmd s
  | .idle => Sys2Proof.Machine.execIdle s
  | .decompose => Sys2Proof.Machine.execDecompose s
  | .special => Sys2Proof.Machine.execSpecial s
  | .bounds => Sys2Proof.Machine.execBounds s
  | .normw => Sys2Proof.Machine.execNormw s
  | .pinit => Sys2Proof.Machine.execPinit s
  | .pwalk => Sys2Proof.Machine.execPwalk s
  | .mulw => Sys2Proof.Machine.execMulw s
  | .mulu => Sys2Proof.Machine.execMulu s
  | .mull => Sys2Proof.Machine.execMull s
  | .setup => Sys2Proof.Machine.execSetup s
  | .dgint => Sys2Proof.Machine.execDgint s
  | .dgfrac => Sys2Proof.Machine.execDgfrac s
  | .round => Sys2Proof.Machine.execRound s
  | .emit => Sys2Proof.Machine.execEmit s
  | .reservedUop => Sys2Proof.Machine.execReservedUop s

end Sys2Proof.Machine
end

