-- ==== Sys2Proof/WellFormed.lean ====
section
/-! DEFINITION. Which terms of `Instr` stand for an encoding. Operand widths are in the types; the one check left is that the
reserved command word is none of the two words that R68 gives a meaning. -/

namespace Sys2Proof

/-- The term has an encoding that means it (30_encoding.md R68, R69). -/
def Instr.wellFormed : Instr → Bool
  | .reservedCmd word => word != 0 && word != 1
  | .rdIn | .wrIn _ | .rdCmd | .wrCmd _ | .rdStatus | .rdResult => true
  | .rdOut0 | .rdOut1 | .rdOut2 | .rdOut3 | .rdDig0 | .rdDig1 | .rdDig2 => true
  | .rdUnmapped58 | .rdUnmapped60 _ | .rdUnmapped80 _ => true
  | .wrIgnored110 _ _ | .wrIgnored120 _ _ | .wrIgnored140 _ _ | .wrIgnored180 _ _ => true
  | .notAdmitted1 _ _ | .notAdmitted2 _ _ | .notAdmitted4 _ _ => true
  | .nop | .convert => true
  | .idle | .decompose | .special | .bounds | .normw | .pinit | .pwalk | .mulw | .mulu | .mull => true
  | .setup | .dgint | .dgfrac | .round | .emit | .reservedUop => true

end Sys2Proof
end

