-- ==== Sys2Proof/Decode.lean ====
section
/-! DEFINITION. Decoding and encoding of the three forms (30_encoding.md R63 to R71, spec/opcode_table.json), and their byte
layout (log 13). -/

namespace Sys2Proof

/-! ### Decode -/

/-- HACC decode (R65): ALN ≠ 000 is not admitted; otherwise W and REG choose the operation. -/
def decodeHacc (code : BitVec 9) (data : U64) : Instr :=
  let write := code.getLsbD 8
  let reg : BitVec 5 := code.extractLsb' 3 5
  if code.getLsbD 0 then .notAdmitted1 (code.extractLsb' 1 8) data
  else if code.getLsbD 1 then .notAdmitted2 (code.extractLsb' 2 7) data
  else if code.getLsbD 2 then .notAdmitted4 (code.extractLsb' 3 6) data
  else if write then
    if reg = 0 then .wrIn data
    else if reg = 1 then .wrCmd data
    else if reg < 4 then .wrIgnored110 (reg.extractLsb' 0 1) data
    else if reg < 8 then .wrIgnored120 (reg.extractLsb' 0 2) data
    else if reg < 16 then .wrIgnored140 (reg.extractLsb' 0 3) data
    else .wrIgnored180 (reg.extractLsb' 0 4) data
  else
    if reg = 0 then .rdIn
    else if reg = 1 then .rdCmd
    else if reg = 2 then .rdStatus
    else if reg = 3 then .rdResult
    else if reg = 4 then .rdOut0
    else if reg = 5 then .rdOut1
    else if reg = 6 then .rdOut2
    else if reg = 7 then .rdOut3
    else if reg = 8 then .rdDig0
    else if reg = 9 then .rdDig1
    else if reg = 10 then .rdDig2
    else if reg = 11 then .rdUnmapped58
    else if reg < 16 then .rdUnmapped60 (reg.extractLsb' 0 2)
    else .rdUnmapped80 (reg.extractLsb' 0 4)

/-- Command word decode (R67, R68): a match on the whole 64-bit word. -/
def decodeCmd (word : U64) : Instr :=
  if word = 0 then .nop else if word = 1 then .convert else .reservedCmd word

/-- Micro-operation decode (R70, R71). -/
def decodeUop (code : BitVec 4) : Instr :=
  match code.toNat with
  | 0x0 => .idle
  | 0x1 => .decompose
  | 0x2 => .special
  | 0x3 => .bounds
  | 0x4 => .normw
  | 0x5 => .pinit
  | 0x6 => .pwalk
  | 0x7 => .mulw
  | 0x8 => .mulu
  | 0x9 => .mull
  | 0xA => .setup
  | 0xB => .dgint
  | 0xC => .dgfrac
  | 0xD => .round
  | 0xE => .emit
  | _ => .reservedUop

/-- Decode an encoded form. Total: every HACC code, every command word and every STATE code has a row of the table. -/
def decode : Enc → Instr
  | .hacc code data => decodeHacc code data
  | .cmd word => decodeCmd word
  | .uop code => decodeUop code

/-! ### Encode -/

/-- The access code of a read (W = 0) or write (W = 1) of register REG with ALN = 000 (R64). -/
def haccCode (write : BitVec 1) (reg : BitVec 5) : BitVec 9 := write ++ reg ++ 0#3

/-- The encoded form of an instruction. A read's DATA is returned, not sent, and is encoded as 0. -/
def encode : Instr → Enc
  | .rdIn => .hacc (haccCode 0#1 0#5) 0
  | .wrIn data => .hacc (haccCode 1#1 0#5) data
  | .rdCmd => .hacc (haccCode 0#1 1#5) 0
  | .wrCmd data => .hacc (haccCode 1#1 1#5) data
  | .rdStatus => .hacc (haccCode 0#1 2#5) 0
  | .rdResult => .hacc (haccCode 0#1 3#5) 0
  | .rdOut0 => .hacc (haccCode 0#1 4#5) 0
  | .rdOut1 => .hacc (haccCode 0#1 5#5) 0
  | .rdOut2 => .hacc (haccCode 0#1 6#5) 0
  | .rdOut3 => .hacc (haccCode 0#1 7#5) 0
  | .rdDig0 => .hacc (haccCode 0#1 8#5) 0
  | .rdDig1 => .hacc (haccCode 0#1 9#5) 0
  | .rdDig2 => .hacc (haccCode 0#1 10#5) 0
  | .rdUnmapped58 => .hacc (haccCode 0#1 11#5) 0
  | .rdUnmapped60 reg => .hacc (haccCode 0#1 (0b011#3 ++ reg)) 0
  | .rdUnmapped80 reg => .hacc (haccCode 0#1 (1#1 ++ reg)) 0
  | .wrIgnored110 reg data => .hacc (haccCode 1#1 (0b0001#4 ++ reg)) data
  | .wrIgnored120 reg data => .hacc (haccCode 1#1 (0b001#3 ++ reg)) data
  | .wrIgnored140 reg data => .hacc (haccCode 1#1 (0b01#2 ++ reg)) data
  | .wrIgnored180 reg data => .hacc (haccCode 1#1 (1#1 ++ reg)) data
  | .notAdmitted1 hi data => .hacc (hi ++ 1#1) data
  | .notAdmitted2 hi data => .hacc (hi ++ 0b10#2) data
  | .notAdmitted4 hi data => .hacc (hi ++ 0b100#3) data
  | .nop => .cmd 0
  | .convert => .cmd 1
  | .reservedCmd word => .cmd word
  | .idle => .uop 0x0
  | .decompose => .uop 0x1
  | .special => .uop 0x2
  | .bounds => .uop 0x3
  | .normw => .uop 0x4
  | .pinit => .uop 0x5
  | .pwalk => .uop 0x6
  | .mulw => .uop 0x7
  | .mulu => .uop 0x8
  | .mull => .uop 0x9
  | .setup => .uop 0xA
  | .dgint => .uop 0xB
  | .dgfrac => .uop 0xC
  | .round => .uop 0xD
  | .emit => .uop 0xE
  | .reservedUop => .uop 0xF

/-! ### Bytes (log 13) -/

/-- Why a byte string is no encoding of its format. -/
inductive DecodeError where
  /-- The byte string has not the format's length. -/
  | wrongLength (fmt : Format) (n : Nat)
  /-- A bit above the format's width is set (the 9-bit access code, the 4-bit STATE code). -/
  | bitsAboveWidth (fmt : Format)
  deriving DecidableEq, Repr

/-- The bytes of a format: 2 for the access code and 8 for DATA, 8, and 1. -/
def Format.length : Format → Nat
  | .hacc => 10
  | .cmd => 8
  | .uop => 1

/-- `n` bytes of `w`, least significant first. -/
def leBytes : Nat → Nat → List Byte
  | 0, _ => []
  | n + 1, w => BitVec.ofNat 8 w :: leBytes n (w / 256)

/-- The number whose bytes, least significant first, are `bs`. -/
def ofLeBytes : List Byte → Nat
  | [] => 0
  | b :: bs => b.toNat + 256 * ofLeBytes bs

/-- The bytes of an encoded form. -/
def Enc.toBytes : Enc → List Byte
  | .hacc code data => leBytes 2 code.toNat ++ leBytes 8 data.toNat
  | .cmd word => leBytes 8 word.toNat
  | .uop code => leBytes 1 code.toNat

/-- The encoded form a byte string of the format holds, or why it holds none. -/
def Enc.ofBytes (fmt : Format) (bs : List Byte) : Except DecodeError Enc :=
  if bs.length ≠ fmt.length then .error (.wrongLength fmt bs.length)
  else
    match fmt with
    | .hacc =>
      if 2 ^ 9 ≤ ofLeBytes (bs.take 2) then .error (.bitsAboveWidth .hacc)
      else .ok (.hacc (BitVec.ofNat 9 (ofLeBytes (bs.take 2))) (BitVec.ofNat 64 (ofLeBytes (bs.drop 2))))
    | .cmd => .ok (.cmd (BitVec.ofNat 64 (ofLeBytes bs)))
    | .uop =>
      if 2 ^ 4 ≤ ofLeBytes bs then .error (.bitsAboveWidth .uop)
      else .ok (.uop (BitVec.ofNat 4 (ofLeBytes bs)))

/-- Decode the bytes of a form. Total, rejecting by name. -/
def decodeBytes (fmt : Format) (bs : List Byte) : Except DecodeError Instr :=
  match Enc.ofBytes fmt bs with
  | .ok e => .ok (decode e)
  | .error r => .error r

/-! ### The opcode table's numbering of bits (log 13) -/

/-- The format of a table row of `nbits` bits: 4 bits (one byte) is UOP; 9 bits (two bytes) is a HACC access code, its DATA being
0; 64 bits is CMD; 80 bits is an access code and its DATA. -/
def formatOfBits (nbits : Nat) : Format :=
  if nbits ≤ 8 then .uop else if nbits ≤ 16 then .hacc else if nbits ≤ 64 then .cmd else .hacc

/-- The encoded form whose bits, as the table numbers them, are `w`; the bits from `nbits` on are 0. -/
def encOfTableWord (nbits w : Nat) : Except DecodeError Enc :=
  let fmt := formatOfBits nbits
  if 2 ^ nbits ≤ w ∨ 80 < nbits then .error (.bitsAboveWidth fmt)
  else Enc.ofBytes fmt (leBytes fmt.length w)

/-- The instruction the decoder reads from an instruction whose bits are `w`, numbered as spec/opcode_table.json numbers them. -/
def decodeTableWord (nbits w : Nat) : Option Instr :=
  match encOfTableWord nbits w with
  | .ok e => some (decode e)
  | .error _ => none

end Sys2Proof
end

