-- ==== Sys2Proof/Machine/Reset.lean ====
section
/-! DEFINITION. The reset event (70_reset_and_hazards.md R162, 10_state.md R44). -/

namespace Sys2Proof.Machine

/-- A register pair after a reset event: free values, registers `k` of each width. -/
def resetDec (tick k : Nat) : Dec := ⟨Config.resetU64 tick k, Config.resetS32 tick k⟩

/-- Reset "sets every piece of state to its value in 10_state.md rule R44": the listed values, and a free value for each register R44
calls unspecified (log 4). The host's own side (`pending`, `readData`) and `tick` are no state of FPDEC and stay. -/
def applyReset (s : State) : State :=
  { s with
    inReg := 0
    busy := false
    done := false
    fault := false
    cmdErr := false
    cause := 0
    cls := .finite
    neg := false
    stateCode := Uop.idle
    outLen := 0
    ndig := 0
    kexp := 0
    out := freshOut s.tick
    dig := freshDig s.tick
    x := Config.resetU64 s.tick 0
    f := resetDec s.tick 1
    w := resetDec s.tick 2
    u := resetDec s.tick 3
    l := resetDec s.tick 4
    cp := resetDec s.tick 5
    idx := Config.resetIdx s.tick
    kdec := Config.resetS32 s.tick 6
    cut := Config.resetCut s.tick
    p1 := Config.resetU64 s.tick 7
    p2 := Config.resetU64 s.tick 8
    delta := Config.resetU64 s.tick 9
    wfrac := Config.resetU64 s.tick 10
    wsc := Config.resetU64 s.tick 11
    kappa := Config.resetS32 s.tick 12
    rem := Config.resetU64 s.tick 13
    unit := Config.resetU64 s.tick 14 }

end Sys2Proof.Machine
end

