-- ==== Sys2Proof/Machine/Fetch.lean ====
section
/-! DEFINITION. What happens next: the pending events, the form an event presents to the decoder, and placing an instruction there
(logs 1, 2). FPDEC fetches no instructions from memory (20_memory.md R61). -/

namespace Sys2Proof.Machine

/-- The port admits the access: "64-bit accesses at byte offsets that are multiples of 8" (20_memory.md R49). -/
def admitted (bits : Nat) (code : BitVec 9) : Bool := bits == 64 && code.extractLsb' 0 3 == 0

/-- The event is the host's own; a sequencer's turn and a reset are not (R17, R162). -/
def Event.isHost : Event → Bool
  | .access _ _ _ | .command _ => true
  | .turn | .reset => false

/-- The event is an access that is not admitted, which leaves the host stuck (R49, 60_exceptions.md R153). -/
def Event.sticksHost : Event → Bool
  | .access bits code _ => !admitted bits code
  | .command _ | .turn | .reset => false

/-- The next event: the oldest pending one, and with none pending a turn of the sequencer. Where the oldest is an access that is not
admitted, the host is stuck and only the other agents go on: the oldest pending turn or reset, and with none pending a turn of the
sequencer while it is not in IDLE, "whatever the host does" (R171). In IDLE no agent has a step, and the access itself is what is
left. Log 8. -/
def nextEvent (s : State) : Event :=
  match s.pending with
  | [] => .turn
  | e :: rest =>
    if e.sticksHost then
      match rest.find? (!·.isHost) with
      | some e' => e'
      | none => if s.stateCode = Uop.idle then e else .turn
    else e

/-- The events that stay pending after the next one: a stuck host stays at its access. -/
def remaining : List Event → List Event
  | [] => []
  | e :: rest => if e.sticksHost then e :: rest.eraseP (!·.isHost) else rest

/-- The state in which the next event takes effect: it is no longer pending, and the free values move on. -/
def advance (s : State) : State := { s with pending := remaining s.pending, tick := s.tick + 1 }

/-- Where the next event leads: an encoded form to decode and run, a reset, or an access the port does not admit by its width. -/
inductive Fetched where
  | form (e : Enc)
  | reset
  | notAdmitted
  deriving DecidableEq, Repr

/-- The sequencer's turn presents STATE as a UOP code (R134); an access presents its code and DATA when it is 64 bits wide, and is
not admitted otherwise (20_memory.md R49); a command word presents itself (30_encoding.md R67). -/
def fetch (s : State) : Fetched :=
  match nextEvent s with
  | .turn => .form (.uop s.stateCode)
  | .command word => .form (.cmd word)
  | .access bits code data => if bits = 64 then .form (.hacc code data) else .notAdmitted
  | .reset => .reset

/-- Put an encoded form where the next step finds it: a micro-operation in STATE with the sequencer's turn next, a command word or a
64-bit access as the next event. An access that is not admitted is left alone with a sequencer in IDLE, where its stop is the step
(log 8). -/
def place (e : Enc) (s : State) : State :=
  match e with
  | .uop code => { s with stateCode := code, pending := .turn :: s.pending }
  | .cmd word => { s with pending := .command word :: s.pending }
  | .hacc code data =>
    if admitted 64 code then { s with pending := .access 64 code data :: s.pending }
    else { s with stateCode := Uop.idle, pending := [.access 64 code data] }

/-- Put the instruction whose bits, as spec/opcode_table.json numbers them, are `w` where the next step finds it. -/
def placeTableWord (s : State) (nbits w : Nat) : State :=
  match encOfTableWord nbits w with
  | .ok e => place e s
  | .error _ => s

end Sys2Proof.Machine
end

