-- ==== Sys2Proof/Machine/Step.lean ====
section
/-! DEFINITION. One step of the whole machine: the next event, as one atomic transition (20_memory.md R50, R56). -/

namespace Sys2Proof.Machine

/-- One transition: a decoded form is run by exec; a reset event resets (R162); an access of another width than 64 bits has no step
(R49). -/
def step (s : State) : Host.Outcome State Fault Refusal :=
  match fetch s with
  | .form e => exec (decode e) (advance s)
  | .reset => .next (applyReset (advance s))
  | .notAdmitted => .fault .hostStuck

/-- `s` with the instruction whose table bits are `w` where the next step finds it (log 2). -/
def State.withFetchWord (s : State) (nbits w : Nat) : State := placeTableWord s nbits w

end Sys2Proof.Machine
end

