-- ==== Sys2Proof/Machine/Assembler.lean ====
section
/-! DEFINITION. The host's assembler syntax (30_encoding.md R72 to R74). A poll loop is host behaviour (R74): the model gives one
read of it and the test that ends it. -/

namespace Sys2Proof.Machine

/-- The register names of R72, with a numeric offset for the rest. -/
inductive PortReg where
  | inR
  | cmd
  | status
  | result
  | out (j : Fin 4)
  | dig (j : Fin 3)
  | offset (off : BitVec 8)
  deriving DecidableEq, Repr

/-- The byte offset of a register (10_state.md R18). -/
def PortReg.byteOffset : PortReg → BitVec 8
  | .inR => 0x00
  | .cmd => 0x08
  | .status => 0x10
  | .result => 0x18
  | .out j => BitVec.ofNat 8 (0x20 + 8 * j.val)
  | .dig j => BitVec.ofNat 8 (0x40 + 8 * j.val)
  | .offset off => off

/-- One line of a host program (R72). -/
inductive AsmLine where
  | wr (reg : PortReg) (imm : U64)
  | rd (reg : PortReg)
  | poll (reg : PortReg) (mask value : U64)
  deriving DecidableEq, Repr

/-- The pseudo-instructions (R73). -/
inductive Pseudo where
  | nop
  | convert
  | wait
  | cvt (imm : U64)
  | readout
  deriving DecidableEq, Repr

/-- The expansions of R73. -/
def expand : Pseudo → List AsmLine
  | .nop => [.wr .cmd 0x0]
  | .convert => [.wr .cmd 0x1]
  | .wait => [.poll .status 0x1 0x0]
  | .cvt imm => [.wr .inR imm, .wr .cmd 0x1, .poll .status 0x1 0x0]
  | .readout => [.rd .status, .rd .result, .rd (.out 0), .rd (.out 1), .rd (.out 2), .rd (.out 3)]

/-- The access code of a line: W, then the byte offset (R64, R72). -/
def accessCode (write : BitVec 1) (reg : PortReg) : BitVec 9 := write ++ reg.byteOffset

/-- The host access a line makes; for a poll, one read of its loop (R72). -/
def AsmLine.event : AsmLine → Event
  | .wr reg imm => .access 64 (accessCode 1 reg) imm
  | .rd reg => .access 64 (accessCode 0 reg) 0
  | .poll reg _ _ => .access 64 (accessCode 0 reg) 0

/-- The test that ends a poll: `(DATA & mask) = value` (R72). -/
def pollEnds (mask value : U64) (s : State) : Bool := s.readData &&& mask == value

end Sys2Proof.Machine
end

