-- ==== Sys2Proof/Machine/Conversion.lean ====
section
/-! DEFINITION. The conversion as a whole (47_top_level.md R126, R134 to R138): runs of the sequencer alone, and `ConvertText`. -/

namespace Sys2Proof.Machine

/-- `k` turns of the sequencer: each runs the micro-operation whose code is STATE (R134); a STATE code with no step leaves the state
as it is. -/
def sequencerRun : Nat → State → State
  | 0, s => s
  | k + 1, s =>
    match exec (decode (.uop s.stateCode)) s with
    | .next t => sequencerRun k t
    | .fault _ => s
    | .refused _ => s

/-- The most steps a conversion takes (R138). -/
def conversionBound : Nat := 48

/-- `convert(X)`: the state in which a conversion of `x` accepted in the idle state `s` ends (R126, R128). -/
def conversionEnd (x : U64) (s : State) : State := sequencerRun conversionBound (acceptConvert { s with inReg := x })

/-- The text a state holds: OUT[0..OUT_LEN-1] (R123). -/
def textOf (s : State) : List Byte := s.out.toList.take s.outLen.toNat

/-- `ConvertText(X)` (R126): the bytes left when no guard fault fires. -/
def convertText (x : U64) : Option (List Byte) :=
  if (conversionEnd x State.reset).done then some (textOf (conversionEnd x State.reset)) else none

end Sys2Proof.Machine
end

