-- ==== Sys2Proof/Safety.lean ====
section
/-! DEFINITION. What claims call a sound state and a safe run. -/

namespace Sys2Proof.Machine

/-- `k` steps of the machine (Host/Core.lean), stopping at the first step that answers no next state. -/
def runSteps (k : Nat) (s : State) : Result := Host.Core.run Sys2Proof.core k s

/-- The control invariant: BUSY = 1 exactly when STATE is not IDLE (47_top_level.md R135), STATE is never 0xF (30_encoding.md R71);
BUSY, DONE and FAULT exclude each other (10_state.md R21); CAUSE is 0 when FAULT = 0 and one of 1 to 5 when FAULT = 1
(60_exceptions.md R145); the buffers are not overfull (R38, R39). -/
structure State.Sound (s : State) : Prop where
  busy_iff : s.busy = true ↔ s.stateCode ≠ Uop.idle
  not_reserved : s.stateCode ≠ 0xF
  busy_not_done : s.busy = true → s.done = false
  busy_not_fault : s.busy = true → s.fault = false
  done_not_fault : s.done = true → s.fault = false
  cause_zero : s.fault = false → s.cause = 0
  cause_listed : s.fault = true → s.cause ≠ 0 ∧ s.cause.toNat ≤ 5
  ndig_le : s.ndig.toNat ≤ 18
  outLen_le : s.outLen.toNat ≤ 25

/-- A conversion is at its first step: just accepted (47_top_level.md R128), with the sequencer's turns to come. -/
structure State.Accepted (s : State) : Prop where
  at_decompose : s.stateCode = Uop.decompose
  busy_set : s.busy = true
  done_clear : s.done = false
  fault_clear : s.fault = false
  cause_clear : s.cause = 0
  pending_empty : s.pending = []

/-- The state a guard fault of code `c` leaves: "the state before the faulting step, with only these fields changed"
(60_exceptions.md R146). -/
def State.faultedWith (c : BitVec 4) (s : State) : State :=
  { s with fault := true, cause := c, busy := false, done := false, stateCode := 0 }

/-- The digit `d` was appended between `s` and `t`: nothing for a leading zero, otherwise DIG[NDIG] = '0' + d and NDIG one more, and
every other byte of DIG as before (45_digit_generator.md R107). -/
def State.Appended (d : Nat) (s t : State) : Prop :=
  (d = 0 → s.ndig = 0 → t.dig = s.dig ∧ t.ndig = s.ndig) ∧
  (d ≠ 0 ∨ s.ndig ≠ 0 →
    t.ndig = s.ndig + 1 ∧
    ∀ (i : Nat) (h : i < 18), t.dig[i] = if i = s.ndig.toNat then BitVec.ofNat 8 (0x30 + d) else s.dig[i])

/-- The text was written between `s` and `t`: OUT[0 .. length-1] holds it, OUT_LEN is its length, and every other byte of OUT is as
before (46_emitter.md R124, 47_top_level.md R132). -/
def State.Wrote (text : List Byte) (s t : State) : Prop :=
  t.outLen.toNat = text.length ∧ textOf t = text ∧ ∀ (i : Nat) (h : i < 25), text.length ≤ i → t.out[i] = s.out[i]

end Sys2Proof.Machine
end

