-- ==== Sys2Proof/Certificates/Slice0/Obligations.lean ====
section
/-! DEFINITION. The statements for the provers. An equality `exec i s = .next t` with `t` a record update of `s` is a completion, a
result and a whole frame in one: every field not named is unchanged. FPDEC has no memory (20_memory.md R45). -/

open Sys2Proof Sys2Proof.Machine

/-! ### Encoding -/

/-- Words written out from 30_encoding.md R64, R67, R68 and R70 decode to their instructions. A sanity statement. -/
def Obligations.WrittenWordsDecode : Prop :=
  decode (.hacc 0b000000000#9 0) = .rdIn ∧
  (∀ d, decode (.hacc 0b100000000#9 d) = .wrIn d) ∧
  (∀ d, decode (.hacc 0b100001000#9 d) = .wrCmd d) ∧
  decode (.hacc 0b000010000#9 0) = .rdStatus ∧
  decode (.hacc 0b001010000#9 0) = .rdDig2 ∧
  decode (.hacc 0b001110000#9 0) = .rdUnmapped60 0b10 ∧
  (∀ d, decode (.hacc 0b111111000#9 d) = .wrIgnored180 0b1111 d) ∧
  decode (.cmd 0x0000000000000000) = .nop ∧
  decode (.cmd 0x0000000000000001) = .convert ∧
  decode (.cmd 0x8000000000000001) = .reservedCmd 0x8000000000000001 ∧
  decode (.uop 0x1) = .decompose ∧
  decode (.uop 0xE) = .emit ∧
  decode (.uop 0xF) = .reservedUop

/-- Decoding an encoded well-formed instruction gives it back, as bits and as bytes (R64 to R70). -/
def Obligations.EncodeThenDecode : Prop :=
  ∀ i : Instr, i.wellFormed = true →
    decode (encode i) = i ∧ decodeBytes (encode i).format (encode i).toBytes = .ok i

/-- Every word of every format decodes to a well-formed instruction whose encoding is that word; only the DATA of a read, which is
returned and not sent, is not kept (R65, R67, R70). -/
def Obligations.DecodeThenEncode : Prop :=
  ∀ e : Enc, (decode e).wellFormed = true ∧
    match e with
    | .hacc code data => ∃ data', encode (decode e) = .hacc code data' ∧
        ((code.getLsbD 8 = true ∨ code.extractLsb' 0 3 ≠ 0) → data' = data)
    | .cmd word => encode (decode e) = .cmd word
    | .uop code => encode (decode e) = .uop code

/-! ### The step -/

/-- A step is exec of the decoded form that the next event presents, in the state in which that event is no longer pending; with
nothing pending the sequencer has the turn (R134, R56, R171). Behind an access that is not admitted the host is stuck (R49): the
oldest pending turn is taken, with none a running sequencer goes on, and one in IDLE leaves the access, which has no step. The event
list, its order and what is taken while the host is stuck are the model's choice (logs 1, 8). -/
def Obligations.StepRunsDecodedForm : Prop :=
  ∀ (s : State) (rest : List Event),
    (∀ code data, code.extractLsb' 0 3 = 0 → s.pending = .access 64 code data :: rest →
      step s = exec (decode (.hacc code data)) { s with pending := rest, tick := s.tick + 1 }) ∧
    (∀ word, s.pending = .command word :: rest →
      step s = exec (decode (.cmd word)) { s with pending := rest, tick := s.tick + 1 }) ∧
    (s.pending = .turn :: rest →
      step s = exec (decode (.uop s.stateCode)) { s with pending := rest, tick := s.tick + 1 }) ∧
    (s.pending = [] →
      step s = exec (decode (.uop s.stateCode)) { s with tick := s.tick + 1 }) ∧
    (∀ bits code data, (bits ≠ 64 ∨ code.extractLsb' 0 3 ≠ 0) → s.pending = .access bits code data :: rest →
      (∀ before after, rest = before ++ .turn :: after → (∀ e ∈ before, e.isHost = true) →
        step s = exec (decode (.uop s.stateCode))
          { s with pending := .access bits code data :: (before ++ after), tick := s.tick + 1 }) ∧
      ((∀ e ∈ rest, e.isHost = true) → s.stateCode ≠ 0 →
        step s = exec (decode (.uop s.stateCode)) { s with tick := s.tick + 1 }) ∧
      ((∀ e ∈ rest, e.isHost = true) → s.stateCode = 0 → step s = .fault .hostStuck))

/-- The instruction `withFetchWord` places is the one the next step runs, with the other events pending as before; only an access that
is not admitted is placed alone, before a sequencer in IDLE. The model's choice (logs 2, 8, 13). -/
def Obligations.PlacedWordRunsNext : Prop :=
  ∀ (s : State) (nbits w : Nat) (i : Instr), decodeTableWord nbits w = some i →
    ∃ c p,
      ((∀ hi d, i ≠ .notAdmitted1 hi d) → (∀ hi d, i ≠ .notAdmitted2 hi d) → (∀ hi d, i ≠ .notAdmitted4 hi d) →
        p = s.pending ∧ (8 < nbits → c = s.stateCode)) ∧
      step (s.withFetchWord nbits w) = exec i { s with stateCode := c, pending := p, tick := s.tick + 1 }

/-- R49: only 64-bit accesses at offsets that are multiples of 8 are admitted. Every other access has no step and the host stays stuck at
it: a step is then the sequencer's turn or a reset, and the access stays where it is, after a reset too. What is taken while the
host is stuck, and that a reset does not free it, is the model's choice (log 8). -/
def Obligations.OnlyAlignedAccessesAreAdmitted : Prop :=
  (∀ (s : State) (hi : BitVec 8) (data : U64), exec (.notAdmitted1 hi data) s = .fault .hostStuck) ∧
  (∀ (s : State) (hi : BitVec 7) (data : U64), exec (.notAdmitted2 hi data) s = .fault .hostStuck) ∧
  (∀ (s : State) (hi : BitVec 6) (data : U64), exec (.notAdmitted4 hi data) s = .fault .hostStuck) ∧
  (∀ (s : State) (code : BitVec 9) (data : U64), code.extractLsb' 0 3 ≠ 0 →
    exec (decode (.hacc code data)) s = .fault .hostStuck) ∧
  (∀ (s : State) (code : BitVec 9) (data : U64), code.extractLsb' 0 3 = 0 →
    ∃ t, exec (decode (.hacc code data)) s = .next t) ∧
  (∀ (s : State) (bits : Nat) (code : BitVec 9) (data : U64) (rest : List Event),
    s.pending = .access bits code data :: rest → (bits ≠ 64 ∨ code.extractLsb' 0 3 ≠ 0) →
      ∀ t, step s = .next t →
        (nextEvent s = .turn ∨ nextEvent s = .reset) ∧ t.pending.head? = some (.access bits code data))

/-- R71: code 0xF has no step, and no instruction brings STATE to it. -/
def Obligations.ReservedStateCodeHasNoStep : Prop :=
  decode (.uop 0xF) = .reservedUop ∧
  (∀ s : State, exec .reservedUop s = .fault .sequencerStuck) ∧
  (∀ (i : Instr) (s t : State), exec i s = .next t → s.stateCode ≠ 0xF → t.stateCode ≠ 0xF)

/-! ### Reset -/

/-- R162: a reset event, in any state, is one transition to the reset values; STATUS then reads 0. The registers R162 calls
unspecified are not constrained. -/
def Obligations.ResetEventSetsResetValues : Prop :=
  ∀ (s : State) (rest : List Event), s.pending = .reset :: rest →
    ∃ t, step s = .next t ∧
      t.inReg = 0 ∧ t.busy = false ∧ t.done = false ∧ t.fault = false ∧ t.cmdErr = false ∧ t.cause = 0 ∧
      t.cls = .finite ∧ t.neg = false ∧ t.stateCode = 0 ∧ t.outLen = 0 ∧ t.ndig = 0 ∧ t.kexp = 0 ∧
      t.pending = rest ∧
      exec .rdStatus t = .next { t with readData := 0 }

/-- R44: the values the table lists, in the state after reset. The other registers' values there are the model's choice (log 3) and
are not stated. -/
def Obligations.ResetStateHoldsListedValues : Prop :=
  State.reset.inReg = 0 ∧ State.reset.busy = false ∧ State.reset.done = false ∧ State.reset.fault = false ∧
  State.reset.cmdErr = false ∧ State.reset.cause = 0 ∧ State.reset.cls = .finite ∧ State.reset.neg = false ∧
  State.reset.stateCode = 0 ∧ State.reset.outLen = 0 ∧ State.reset.ndig = 0 ∧ State.reset.kexp = 0

/-- The control invariant holds in the state after reset. -/
def Obligations.ResetStateIsSound : Prop := State.reset.Sound

/-- Every step keeps the control invariant (10_state.md R21, R38, R39, R71, 47_top_level.md R135, 60_exceptions.md R145). -/
def Obligations.StepKeepsSound : Prop := ∀ s t : State, s.Sound → step s = .next t → t.Sound

/-! ### Host accesses -/

/-- R139: reads of IN and CMD; IN reads the last value written (a write of IN sets it and no other form changes it), and 0 after
reset. -/
def Obligations.ReadsOfInAndCmd : Prop :=
  (∀ s : State, exec .rdIn s = .next { s with readData := s.inReg }) ∧
  (∀ s : State, exec .rdCmd s = .next { s with readData := 0 }) ∧
  (∀ (s t : State) (v : U64), exec (.wrIn v) s = .next t → exec .rdIn t = .next { t with readData := v }) ∧
  (∀ (i : Instr) (s t : State), exec i s = .next t → (∀ v, i ≠ .wrIn v) → t.inReg = s.inReg) ∧
  exec .rdIn State.reset = .next { State.reset with readData := 0 }

/-- R141, R21: a read of STATUS returns its fields, in any state; bits not listed read 0. -/
def Obligations.ReadStatusReturnsFields : Prop :=
  ∀ s : State, ∃ v : U64, exec .rdStatus s = .next { s with readData := v } ∧
    v.getLsbD 0 = s.busy ∧ v.getLsbD 1 = s.done ∧ v.getLsbD 2 = s.fault ∧ v.getLsbD 3 = s.cmdErr ∧
    v.extractLsb' 4 4 = s.cause ∧ v.extractLsb' 8 2 = s.cls.code ∧ v.getLsbD 10 = s.neg ∧
    v.extractLsb' 11 5 = 0 ∧ v.extractLsb' 16 4 = s.stateCode ∧ v.extractLsb' 20 44 = 0

/-- R141, R22: a read of RESULT returns its fields while BUSY = 0 and FAULT = 0; bits not listed read 0. That they are
returned with DONE = 0 and no fault is the model's reading (log 7). -/
def Obligations.ReadResultReturnsFields : Prop :=
  ∀ s : State, s.busy = false → s.fault = false →
    ∃ v : U64, exec .rdResult s = .next { s with readData := v } ∧
      v.extractLsb' 0 5 = s.outLen ∧ v.extractLsb' 5 3 = 0 ∧ v.extractLsb' 8 5 = s.ndig ∧
      v.extractLsb' 13 19 = 0 ∧ v.extractLsb' 32 32 = s.kexp

/-- R142, R23, R24, R47: OUTj at offset 0x20 + 8j and DIGj at 0x40 + 8j return their bytes packed little-endian while BUSY = 0
and FAULT = 0; positions 25 to 31 and 18 to 23 read 0 in every state. That the registers' bytes are returned with DONE = 0 and no
fault, where R142 calls all bytes unspecified, is the model's reading (log 7), and so are the zeros while the rest is unspecified
(log 6). -/
def Obligations.ReadOutAndDigReturnBytes : Prop :=
  (∀ p ∈ [(0, Instr.rdOut0), (1, .rdOut1), (2, .rdOut2), (3, .rdOut3)],
    decode (.hacc (BitVec.ofNat 9 (0x20 + 8 * p.1)) 0) = p.2 ∧
    ∀ s : State, ∃ v : U64, exec p.2 s = .next { s with readData := v } ∧
      ∀ k < 8,
        (25 ≤ 8 * p.1 + k → v.extractLsb' (8 * k) 8 = 0) ∧
        ∀ h : 8 * p.1 + k < 25, s.busy = false → s.fault = false →
          v.extractLsb' (8 * k) 8 = s.out[8 * p.1 + k]) ∧
  (∀ p ∈ [(0, Instr.rdDig0), (1, .rdDig1), (2, .rdDig2)],
    decode (.hacc (BitVec.ofNat 9 (0x40 + 8 * p.1)) 0) = p.2 ∧
    ∀ s : State, ∃ v : U64, exec p.2 s = .next { s with readData := v } ∧
      ∀ k < 8,
        (18 ≤ 8 * p.1 + k → v.extractLsb' (8 * k) 8 = 0) ∧
        ∀ h : 8 * p.1 + k < 18, s.busy = false → s.fault = false →
          v.extractLsb' (8 * k) 8 = s.dig[8 * p.1 + k])

/-- A read of RESULT completes in every state, BUSY and after a fault included, and changes DATA only; its reserved bits read 0 there
too (R51, R22, R58). -/
def Obligations.ResultReadCompletesInEveryState : Prop :=
  ∀ s : State, ∃ v : U64, exec .rdResult s = .next { s with readData := v } ∧ v.extractLsb' 5 3 = 0 ∧ v.extractLsb' 13 19 = 0

/-- R143: reads at offsets 0x58 to 0xF8 return 0; writes to read-only and unmapped offsets change nothing. -/
def Obligations.UnmappedAndReadOnlyOffsets : Prop :=
  (∀ (s : State) (reg : BitVec 5) (data : U64), 11 ≤ reg.toNat →
    exec (decode (.hacc (0#1 ++ reg ++ 0#3) data)) s = .next { s with readData := 0 }) ∧
  (∀ (s : State) (reg : BitVec 5) (data : U64), 2 ≤ reg.toNat →
    exec (decode (.hacc (1#1 ++ reg ++ 0#3) data)) s = .next s) ∧
  (∀ s : State, exec .rdUnmapped58 s = .next { s with readData := 0 }) ∧
  (∀ (s : State) (r : BitVec 2), exec (.rdUnmapped60 r) s = .next { s with readData := 0 }) ∧
  (∀ (s : State) (r : BitVec 4), exec (.rdUnmapped80 r) s = .next { s with readData := 0 }) ∧
  (∀ (s : State) (r : BitVec 1) (d : U64), exec (.wrIgnored110 r d) s = .next s) ∧
  (∀ (s : State) (r : BitVec 2) (d : U64), exec (.wrIgnored120 r d) s = .next s) ∧
  (∀ (s : State) (r : BitVec 3) (d : U64), exec (.wrIgnored140 r d) s = .next s) ∧
  (∀ (s : State) (r : BitVec 4) (d : U64), exec (.wrIgnored180 r d) s = .next s)

/-- R140: a write of IN, in any state. -/
def Obligations.WriteInStores : Prop :=
  ∀ (s : State) (v : U64), exec (.wrIn v) s = .next { s with inReg := v }

/-- R51, R140, R127: a host access or a command word changes IN, CMD_ERR and the returned DATA at most, unless it is a CONVERT accepted
with BUSY = 0; a read (W = 0) changes the returned DATA only. -/
def Obligations.HostLeavesConversionAlone : Prop :=
  (∀ (e : Enc) (s t : State), e.format ≠ .uop → exec (decode e) s = .next t →
    t = { s with inReg := t.inReg, cmdErr := t.cmdErr, readData := t.readData } ∨
    (s.busy = false ∧ (decode e = .convert ∨ decode e = .wrCmd 1) ∧
      t = { s with x := s.inReg, done := false, fault := false, cause := 0, cmdErr := false, busy := true, stateCode := 1 })) ∧
  (∀ (code : BitVec 9) (data : U64) (s t : State), code.getLsbD 8 = false → exec (decode (.hacc code data)) s = .next t →
    t = { s with readData := t.readData })

/-! ### Commands -/

/-- R127: a write of v to CMD, at offset 0x08, is decoded at once, as NOP, CONVERT or a reserved word. -/
def Obligations.CommandWriteDecodesAtOnce : Prop :=
  (∀ v : U64, decode (.hacc (1#1 ++ 0x08#8) v) = .wrCmd v) ∧
  (∀ (s : State) (v : U64), exec (.wrCmd v) s = exec (decode (.cmd v)) s) ∧
  (∀ s : State, exec (.wrCmd 0) s = .next s) ∧
  (∀ s : State, s.busy = false → exec (.wrCmd 1) s =
    .next { s with x := s.inReg, done := false, fault := false, cause := 0, cmdErr := false, busy := true, stateCode := 1 }) ∧
  (∀ s : State, s.busy = true → exec (.wrCmd 1) s = .next { s with cmdErr := true }) ∧
  (∀ (s : State) (v : U64), v ≠ 0 → v ≠ 1 → exec (.wrCmd v) s = .next { s with cmdErr := true })

/-- R128: CONVERT while BUSY = 0. -/
def Obligations.ConvertIsAcceptedWhenIdle : Prop :=
  ∀ s : State, s.busy = false → exec .convert s =
    .next { s with x := s.inReg, done := false, fault := false, cause := 0, cmdErr := false, busy := true, stateCode := 0x1 }

/-- R130: CONVERT while BUSY = 1; and CMD_ERR stays set until an accepted CONVERT clears it. -/
def Obligations.ConvertIsRejectedWhenBusy : Prop :=
  (∀ s : State, s.busy = true → exec .convert s = .next { s with cmdErr := true }) ∧
  (∀ (i : Instr) (s t : State), s.cmdErr = true → exec i s = .next t →
    t.cmdErr = true ∨ (s.busy = false ∧ (i = .convert ∨ i = .wrCmd 1)))

/-- R129: a reserved word sets CMD_ERR and nothing else, in any state, however it reaches CMD. -/
def Obligations.ReservedWordSetsCmdErr : Prop :=
  ∀ (s : State) (v : U64), v ≠ 0x0 → v ≠ 0x1 →
    decode (.cmd v) = .reservedCmd v ∧
    exec (.reservedCmd v) s = .next { s with cmdErr := true } ∧
    exec (.wrCmd v) s = .next { s with cmdErr := true }

/-- R131: NOP changes no state, in any state. -/
def Obligations.NopChangesNothing : Prop :=
  ∀ s : State, exec .nop s = .next s ∧ exec (.wrCmd 0x0) s = .next s

/-! ### The sequencer -/

/-- R135: in IDLE nothing changes, and only an accepted CONVERT leaves it. That the sequencer's turn in IDLE is a step that changes
nothing is the model's choice (log 10). -/
def Obligations.OnlyConvertLeavesIdle : Prop :=
  (∀ s : State, exec .idle s = .next s) ∧
  (∀ s t : State, s.stateCode = 0 → step s = .next t → t.stateCode ≠ 0 →
    s.busy = false ∧ (nextEvent s = .command 1 ∨ nextEvent s = .access 64 0x108 1) ∧
    t.stateCode = 1 ∧ t.busy = true ∧ t.x = s.inReg)

/-- R134: the next-state relation, where no fault is raised and where one is. The pair (0x0, 0x0) is no row of R134: in IDLE the
sequencer takes no step (R135), which the model gives as a step that changes nothing, its own choice (log 10). -/
def Obligations.NextMicroOperation : Prop :=
  ∀ s t : State, s.fault = false → exec (decode (.uop s.stateCode)) s = .next t →
    (t.fault = false → (s.stateCode.toNat, t.stateCode.toNat) ∈
      [(0x0, 0x0), (0x1, 0x3), (0x1, 0x2), (0x2, 0x0), (0x3, 0x4), (0x4, 0x5), (0x5, 0x6), (0x6, 0x6), (0x6, 0x7),
       (0x7, 0x8), (0x8, 0x9), (0x9, 0xA), (0xA, 0xB), (0xB, 0xD), (0xB, 0xC), (0xB, 0xB), (0xC, 0xD), (0xC, 0xC),
       (0xD, 0xD), (0xD, 0xE), (0xE, 0x0)]) ∧
    (t.fault = true → s.stateCode.toNat ∈ [0x6, 0xB, 0xC, 0xD, 0xE] ∧ t.stateCode = 0)

/-- A micro-operation neither reads nor writes IN, CMD_ERR or the DATA of host reads, so a host access that only writes those
commutes with it (R19, R140, R56). -/
def Obligations.SequencerIgnoresHostTraffic : Prop :=
  ∀ (c : BitVec 4) (s t : State) (v r : U64) (b : Bool), exec (decode (.uop c)) s = .next t →
    exec (decode (.uop c)) { s with inReg := v, cmdErr := b, readData := r } =
      .next { t with inReg := v, cmdErr := b, readData := r }

/-- R146, R145, R144: a step that raises a fault makes no other write; only these micro-operations raise one, with these causes. -/
def Obligations.FaultEntryWritesNothingElse : Prop :=
  ∀ (i : Instr) (s t : State), exec i s = .next t → s.fault = false → t.fault = true →
    t = s.faultedWith t.cause ∧
    ((i = .pwalk ∧ t.cause = 1) ∨ ((i = .dgint ∨ i = .dgfrac) ∧ t.cause = 2) ∨
     (i = .round ∧ (t.cause = 3 ∨ t.cause = 5)) ∨ (i = .emit ∧ (t.cause = 4 ∨ t.cause = 5)))

/-- R57, R165: once DONE = 1, the results stay until a reset; a CONVERT accepted meanwhile leaves them too, until the conversion
writes them. -/
def Obligations.ResultsStayAfterDone : Prop :=
  ∀ s t : State, s.Sound → s.done = true → nextEvent s ≠ .reset → step s = .next t →
    t.out = s.out ∧ t.outLen = s.outLen ∧ t.dig = s.dig ∧ t.ndig = s.ndig ∧ t.kexp = s.kexp ∧
    (t.done = true ∨ (t.busy = true ∧ t.stateCode = 1))

/-! ### Decomposer -/

/-- R75 to R80: DECOMPOSE, class by class, for every X. -/
def Obligations.DecomposeByClass : Prop :=
  ∀ s : State,
    let bexp := (s.x.extractLsb' 52 11).toNat
    let frac := (s.x.extractLsb' 0 52).toNat
    (bexp = 0 → frac = 0 → exec .decompose s =
      .next { s with neg := s.x.getLsbD 63, cls := .zero, f := ⟨0, BitVec.ofInt 32 (-1074)⟩, stateCode := 0x2 }) ∧
    (bexp = 0 → frac ≠ 0 → exec .decompose s =
      .next { s with
        neg := s.x.getLsbD 63, cls := .finite, f := ⟨BitVec.ofNat 64 frac, BitVec.ofInt 32 (-1074)⟩, stateCode := 0x3 }) ∧
    (1 ≤ bexp → bexp ≤ 0x7FE → exec .decompose s =
      .next { s with
        neg := s.x.getLsbD 63
        cls := .finite
        f := ⟨BitVec.ofNat 64 (frac + 2 ^ 52), BitVec.ofInt 32 (bexp - 1075)⟩
        stateCode := 0x3 }) ∧
    (bexp = 0x7FF → frac = 0 → exec .decompose s =
      .next { s with neg := s.x.getLsbD 63, cls := .infinite, f := ⟨0, 972⟩, stateCode := 0x2 }) ∧
    (bexp = 0x7FF → frac ≠ 0 → exec .decompose s =
      .next { s with neg := s.x.getLsbD 63, cls := .nan, f := ⟨BitVec.ofNat 64 frac, 972⟩, stateCode := 0x2 })

/-! ### Boundary Calculator -/

/-- R85, R82, R83: BOUNDS for a mantissa 1 ≤ FM < 2^53 and the exponents of finite inputs (R27, R77): k is the normalizing shift of
2 FM + 1; and in every other state it completes, writing UM, UE, LM, LE and STATE only: there the model's choice, free values where
Norm or the shift is not defined (log 12). -/
def Obligations.BoundsComputesMidpoints : Prop :=
  (∀ s : State, 1 ≤ s.f.m.toNat → s.f.m.toNat < 2 ^ 53 → -1074 ≤ s.f.e.toInt → s.f.e.toInt ≤ 971 →
    let m := s.f.m.toNat
    let sh := if m = 2 ^ 52 then 2 else 1
    ∃ k : Nat, 2 ^ 63 ≤ (2 * m + 1) * 2 ^ k ∧ (2 * m + 1) * 2 ^ k < 2 ^ 64 ∧ sh ≤ k + 1 ∧
      exec .bounds s = .next { s with
        u := ⟨BitVec.ofNat 64 ((2 * m + 1) * 2 ^ k), BitVec.ofInt 32 (s.f.e.toInt - 1 - k)⟩
        l := ⟨BitVec.ofNat 64 ((m * 2 ^ sh - 1) * 2 ^ (k + 1 - sh)), BitVec.ofInt 32 (s.f.e.toInt - 1 - k)⟩
        stateCode := 0x4 }) ∧
  (∀ s : State, ∃ t, exec .bounds s = .next t ∧ t = { s with u := t.u, l := t.l, stateCode := 0x4 })

/-- R86, R81: NORMW normalizes any FM ≠ 0: bit 63 of WM is set and the real value is kept; with FM = 0 it completes, writing WM, WE
and STATE only. The FM = 0 clause is the model's choice (log 12: R81 never applies Norm to 0), and WE past 32 bits is held modulo
2^32 (log 11). -/
def Obligations.NormwNormalizes : Prop :=
  (∀ s : State, s.f.m ≠ 0 →
    ∃ k : Nat, 2 ^ 63 ≤ s.f.m.toNat * 2 ^ k ∧ s.f.m.toNat * 2 ^ k < 2 ^ 64 ∧
      exec .normw s = .next { s with
        w := ⟨BitVec.ofNat 64 (s.f.m.toNat * 2 ^ k), BitVec.ofInt 32 (s.f.e.toInt - k)⟩
        stateCode := 0x5 }) ∧
  (∀ s : State, ∃ t, exec .normw s = .next t ∧ t = { s with w := t.w, stateCode := 0x5 })

/-- R84: after DECOMPOSE, BOUNDS and NORMW of a finite input, the three exponents agree and lie in [-1137, 960], w and upper are
normalized, and the gaps are the half-ULP above and a half or a quarter below. -/
def Obligations.BoundaryRanges : Prop :=
  ∀ s : State, s.stateCode = 0x1 → classify (bexpOf s.x) (fracOf s.x) = .finite →
    let t := sequencerRun 3 s
    t.stateCode = 0x5 ∧ t.cls = .finite ∧
    t.w.e = t.u.e ∧ t.l.e = t.u.e ∧ -1137 ≤ t.u.e.toInt ∧ t.u.e.toInt ≤ 960 ∧
    2 ^ 63 ≤ t.w.m.toNat ∧ 2 ^ 63 ≤ t.u.m.toNat ∧
    t.w.m.toNat + 2 ^ 10 ≤ t.u.m.toNat ∧ t.l.m.toNat + 2 ^ 9 ≤ t.w.m.toNat ∧
    (t.f.m.toNat = 2 ^ 52 → t.u.m.toNat = t.w.m.toNat + 2 ^ 10 ∧ t.w.m.toNat = t.l.m.toNat + 2 ^ 9) ∧
    (t.f.m.toNat ≠ 2 ^ 52 → t.u.m.toNat - t.w.m.toNat = t.w.m.toNat - t.l.m.toNat)

/-! ### Cached power -/

/-- R87: every POW entry is the nearest integer to 10^k / 2^e, with 2^63 ≤ 10^k / 2^e < 2^64; none is a tie and none rounds up to
2^64. -/
def Obligations.PowTableIsNearest : Prop :=
  powTable.length = 87 ∧
  ∀ i : Nat, i < 87 →
    let q : Rat := (10 : Rat) ^ (-348 + 8 * (i : Int)) / (2 : Rat) ^ (powEntry i).2
    2 ^ 63 ≤ q ∧ q < 2 ^ 64 ∧ (powEntry i).1 < 2 ^ 64 ∧ |((powEntry i).1 : Rat) - q| < 1 / 2

/-- R92, R91: PINIT for every exponent of a finite input, by R91's integer form; and it completes in every state, writing IDX and
STATE only. -/
def Obligations.PinitComputesInitialIndex : Prop :=
  (∀ s : State, -1137 ≤ s.u.e.toInt → s.u.e.toInt ≤ 960 →
    let n : Int := s.u.e.toInt + 87
    let a : Int := (n.natAbs * 78913 / 2 ^ 18 : Nat)
    exec .pinit s = .next { s with
      idx := BitVec.ofInt 8 (((if n < 0 then a else -a) + 348) / 8)
      stateCode := 0x6 }) ∧
  (∀ s : State, ∃ t, exec .pinit s = .next t ∧ t = { s with idx := t.idx, stateCode := 0x6 })

/-- R93, R90: PWALK, every case. -/
def Obligations.PwalkWalksToWindow : Prop :=
  ∀ s : State,
    (s.idx.toInt < 0 ∨ 86 < s.idx.toInt → exec .pwalk s = .next (s.faultedWith 1)) ∧
    ∀ i : Nat, i ≤ 86 → s.idx.toInt = (i : Int) →
      let c := s.u.e.toInt + (powEntry i).2 + 64
      (c < -60 → exec .pwalk s = .next { s with idx := s.idx + 1, stateCode := 0x6 }) ∧
      (-32 < c → exec .pwalk s = .next { s with idx := s.idx - 1, stateCode := 0x6 }) ∧
      (-60 ≤ c → c ≤ -32 → exec .pwalk s = .next { s with
        cp := ⟨BitVec.ofNat 64 (powEntry i).1, BitVec.ofInt 32 (powEntry i).2⟩
        kdec := BitVec.ofInt 32 (-348 + 8 * (i : Int))
        stateCode := 0x7 })

/-- R94, R89: for every exponent of a finite input, PINIT and at most three PWALK steps end at the least index whose scaled exponent is
at least -60, which lies in [6, 84], with the scaled exponent in [-60, -34]; no fault is raised. -/
def Obligations.LookupFindsPowIndex : Prop :=
  ∀ s : State, s.stateCode = 0x5 → -1137 ≤ s.u.e.toInt → s.u.e.toInt ≤ 960 →
    ∃ a : Nat, 1 ≤ a ∧ a ≤ 3 ∧
      let t := sequencerRun (1 + a) s
      let i : Nat := powIndex s.u.e.toInt
      6 ≤ i ∧ i ≤ 84 ∧ -60 ≤ s.u.e.toInt + (powEntry i).2 + 64 ∧ s.u.e.toInt + (powEntry i).2 + 64 ≤ -34 ∧
      t = { s with
        idx := BitVec.ofNat 8 i
        cp := ⟨BitVec.ofNat 64 (powEntry i).1, BitVec.ofInt 32 (powEntry i).2⟩
        kdec := BitVec.ofInt 32 (-348 + 8 * (i : Int))
        stateCode := 0x7 }

/-! ### Multiplier -/

/-- R96, R98, R100, R101, R102: the three products; the mantissa never carries out of 64 bits, and with both factors normalized it is
at least 2^62. An exponent ae + be + 64 past 32 bits, which no conversion reaches, is held modulo 2^32: the model's choice
(log 11). -/
def Obligations.MultiplyRoundsToNearest : Prop :=
  (∀ a b : Dec, (mul a b).m.toNat = (a.m.toNat * b.m.toNat + 2 ^ 63) / 2 ^ 64 ∧
    (mul a b).e = BitVec.ofInt 32 (a.e.toInt + b.e.toInt + 64) ∧
    (2 ^ 63 ≤ a.m.toNat → 2 ^ 63 ≤ b.m.toNat → 2 ^ 62 ≤ (mul a b).m.toNat)) ∧
  (∀ s : State, exec .mulw s = .next { s with w := mul s.w s.cp, stateCode := 0x8 }) ∧
  (∀ s : State, exec .mulu s = .next { s with u := mul s.u s.cp, stateCode := 0x9 }) ∧
  (∀ s : State, exec .mull s = .next { s with l := mul s.l s.cp, stateCode := 0xA })

/-- R97, R10: the 32-bit formulation gives the mantissa of R96 for all inputs. -/
def Obligations.SplitMultiplyAgrees : Prop :=
  ∀ am bm : Nat, am < 2 ^ 64 → bm < 2 ^ 64 →
    mulMantSplit am bm = (am * bm + 2 ^ 63) / 2 ^ 64 ∧ mulMant am bm = mulMantSplit am bm

/-- R103: scaling by a normalized power keeps the order and, of these gaps, these parts. -/
def Obligations.ScalingKeepsGaps : Prop :=
  ∀ l w u c : Nat, u < 2 ^ 64 → 2 ^ 63 ≤ c → c < 2 ^ 64 → l + 2 ^ 9 ≤ w → w + 2 ^ 10 ≤ u →
    mulMant l c + 255 ≤ mulMant w c ∧ mulMant w c + 511 ≤ mulMant u c ∧ mulMant l c + 767 ≤ mulMant u c

/-! ### Digit Generator -/

/-- R105: SETUP for UM ≥ 1 and a cut 0 ≤ -UE ≤ 63; and it completes in every state, writing its own registers only. Completion with
UE > 0 is the model's choice (log 12), and so are WFRAC, DELTA, LM + 1 and the cut out of range, held modulo their width (log 11). -/
def Obligations.SetupPreparesDigits : Prop :=
  (∀ s : State, 1 ≤ s.u.m.toNat → -63 ≤ s.u.e.toInt → s.u.e.toInt ≤ 0 →
    let n := (-s.u.e.toInt).toNat
    exec .setup s = .next { s with
      u := ⟨s.u.m - 1, s.u.e⟩
      l := ⟨s.l.m + 1, s.l.e⟩
      kexp := -s.kdec
      wfrac := s.u.m - 1 - s.w.m
      delta := (s.u.m - 1) - (s.l.m + 1)
      wsc := s.u.m - 1 - s.w.m
      cut := BitVec.ofNat 6 n
      p1 := BitVec.ofNat 64 ((s.u.m.toNat - 1) / 2 ^ n)
      p2 := BitVec.ofNat 64 ((s.u.m.toNat - 1) % 2 ^ n)
      kappa := 10
      ndig := 0
      stateCode := 0xB }) ∧
  (∀ s : State, ∃ t, exec .setup s = .next t ∧
    t = { s with
      u := t.u, l := t.l, kexp := -s.kdec, wfrac := t.wfrac, delta := t.delta, wsc := t.wsc, cut := t.cut, p1 := t.p1, p2 := t.p2,
      kappa := 10, ndig := 0, stateCode := 0xB })

/-- R106, R107: DGINT for 1 ≤ KAPPA ≤ 10, every case; and in every state it completes or faults as R107 says. Completion
with KAPPA outside 1..10 is the model's choice (logs 12, 22), and so is a digit byte or UNIT out of range, held modulo its width
(log 11). -/
def Obligations.DgintGeneratesIntegerDigit : Prop :=
  (∀ s : State, 1 ≤ s.kappa.toInt → s.kappa.toInt ≤ 10 → s.ndig.toNat ≤ 18 →
    let k := s.kappa.toInt - 1
    let div := 10 ^ k.toNat
    let d := s.p1.toNat / div
    let p1 := s.p1.toNat % div
    let tmp := p1 * 2 ^ s.cut.toNat + s.p2.toNat
    (d ≠ 0 ∨ s.ndig ≠ 0 → s.ndig = 18 → exec .dgint s = .next (s.faultedWith 2)) ∧
    ((d = 0 ∧ s.ndig = 0) ∨ s.ndig ≠ 18 → ∃ t, exec .dgint s = .next t ∧
      s.Appended d t ∧ t.p1.toNat = p1 ∧ t.kappa = BitVec.ofInt 32 k ∧
      (tmp ≤ s.delta.toNat →
        t.kexp = s.kexp + BitVec.ofInt 32 k ∧ t.rem.toNat = tmp ∧ t.unit = BitVec.ofNat 64 (div * 2 ^ s.cut.toNat) ∧
        t.wsc = s.wfrac ∧ t.stateCode = 0xD) ∧
      (s.delta.toNat < tmp →
        t.kexp = s.kexp ∧ t.rem = s.rem ∧ t.unit = s.unit ∧ t.wsc = s.wsc ∧ t.stateCode = if k = 0 then 0xC else 0xB) ∧
      t = { s with
        p1 := t.p1, kappa := t.kappa, kexp := t.kexp, rem := t.rem, unit := t.unit, wsc := t.wsc, dig := t.dig, ndig := t.ndig,
        stateCode := t.stateCode })) ∧
  (∀ s : State, ∃ t, exec .dgint s = .next t ∧
    (t = s.faultedWith 2 ∨
     t = { s with
       p1 := t.p1, kappa := t.kappa, kexp := t.kexp, rem := t.rem, unit := t.unit, wsc := t.wsc, dig := t.dig, ndig := t.ndig,
       stateCode := t.stateCode }))

/-- R108, R107: DGFRAC, every case for NDIG ≤ 18. DELTA and WSC past 64 bits, which no conversion reaches, are held modulo 2^64: the
model's choice (log 11). -/
def Obligations.DgfracGeneratesFractionDigit : Prop :=
  ∀ s : State, s.ndig.toNat ≤ 18 →
    let k := s.kappa.toInt - 1
    let d := s.p2.toNat * 10 / 2 ^ s.cut.toNat
    let p2 := s.p2.toNat * 10 % 2 ^ s.cut.toNat
    let dl := s.delta.toNat * 10
    (d ≠ 0 ∨ s.ndig ≠ 0 → s.ndig = 18 → exec .dgfrac s = .next (s.faultedWith 2)) ∧
    ((d = 0 ∧ s.ndig = 0) ∨ s.ndig ≠ 18 → ∃ t, exec .dgfrac s = .next t ∧
      s.Appended d t ∧ t.p2.toNat = p2 ∧ t.delta = s.delta * 10 ∧ t.wsc = s.wsc * 10 ∧ t.kappa = s.kappa - 1 ∧
      (p2 < dl →
        t.kexp = s.kexp + BitVec.ofInt 32 k ∧ t.rem.toNat = p2 ∧ t.unit.toNat = 2 ^ s.cut.toNat ∧ t.stateCode = 0xD) ∧
      (dl ≤ p2 → t.kexp = s.kexp ∧ t.rem = s.rem ∧ t.unit = s.unit ∧ t.stateCode = 0xC) ∧
      t = { s with
        p2 := t.p2, delta := t.delta, wsc := t.wsc, kappa := t.kappa, kexp := t.kexp, rem := t.rem, unit := t.unit, dig := t.dig,
        ndig := t.ndig, stateCode := t.stateCode })

/-- R110, R111: ROUND, every case for NDIG ≤ 18; the third test in both of R111's forms. -/
def Obligations.RoundDecrementsOrEnds : Prop :=
  ∀ s : State, s.ndig.toNat ≤ 18 →
    let r : Int := s.rem.toNat
    let u : Int := s.unit.toNat
    let w : Int := s.wsc.toNat
    let d : Int := s.delta.toNat
    let down := r < w ∧ u ≤ d - r ∧ |r + u - w| < w - r
    (0 < u → r < w → (|r + u - w| < w - r ↔ r + u < w ∨ r + u - w < w - r)) ∧
    (s.ndig = 0 → exec .round s = .next (s.faultedWith 5)) ∧
    (s.ndig ≠ 0 → ¬ down → exec .round s = .next { s with stateCode := 0xE }) ∧
    ∀ (last : Nat) (h : last < 18), last + 1 = s.ndig.toNat → down →
      (s.dig[last] = 0x30 → exec .round s = .next (s.faultedWith 3)) ∧
      (s.dig[last] ≠ 0x30 → exec .round s = .next { s with
        dig := s.dig.set last (s.dig[last] - 1)
        rem := s.rem + s.unit
        stateCode := 0xD })

/-! ### Emitter -/

/-- R116 to R121: the layouts, for n digits with 1 ≤ n ≤ 18; the scientific exponent's sign is that of K + n - 1 (R120's remark that
the cap never changes it). -/
def Obligations.EmitterLayouts : Prop :=
  (∀ (d : List Byte) (n : Nat) (k : Int) (neg : Bool), d.length = n → 1 ≤ n → n ≤ 18 →
    let exp := (k + n - 1).natAbs
    let isPlain := 0 ≤ k ∧ exp < n + 7
    let isFixed := k < 0 ∧ (-7 < k ∨ exp < 4)
    (isPlain → layoutText d n k neg = d ++ List.replicate k.toNat 0x30) ∧
    (isFixed → n + k ≤ 0 → layoutText d n k neg = [0x30, 0x2E] ++ List.replicate (k.natAbs - n) 0x30 ++ d) ∧
    (isFixed → 1 ≤ n + k → layoutText d n k neg = d.take (n + k).toNat ++ [0x2E] ++ d.drop (n + k).toNat) ∧
    (¬ isPlain → ¬ isFixed →
      let nc := min n (18 - (if neg then 1 else 0))
      layoutText d n k neg =
        d.take 1 ++ (if 1 < nc then 0x2E :: (d.take nc).drop 1 else []) ++ [0x65, if k + n - 1 < 0 then 0x2D else 0x2B] ++
          expDigits exp)) ∧
  (∀ x : Nat, x ≤ 999 →
    (x < 10 → expDigits x = [BitVec.ofNat 8 (0x30 + x)]) ∧
    (10 ≤ x → x < 100 → expDigits x = [BitVec.ofNat 8 (0x30 + x / 10), BitVec.ofNat 8 (0x30 + x % 10)]) ∧
    (100 ≤ x → expDigits x =
      [BitVec.ofNat 8 (0x30 + x / 100), BitVec.ofNat 8 (0x30 + x / 10 % 10), BitVec.ofNat 8 (0x30 + x % 10)]))

/-- R122: with the sign byte a text has at most 25 bytes, but for the one case of 18 digits, K = 7 and a negative value. -/
def Obligations.TextFitsBuffer : Prop :=
  ∀ (d : List Byte) (n : Nat) (k : Int) (neg : Bool), d.length = n → 1 ≤ n → n ≤ 18 → (k + n - 1).natAbs ≤ 999 →
    (25 < (finiteText d n k neg).length ↔ n = 18 ∧ k = 7 ∧ neg = true) ∧ (finiteText d n k neg).length ≤ 26

/-- R124, R123, R136: EMIT, every case for NDIG ≤ 18; a faulting EMIT writes nothing to OUT or OUT_LEN. -/
def Obligations.EmitWritesTextOrFaults : Prop :=
  ∀ s : State, s.ndig.toNat ≤ 18 →
    let n := s.ndig.toNat
    let k := s.kexp.toInt
    let text := (if s.neg then [0x2D] else []) ++ layoutText (s.dig.toList.take n) n k s.neg
    (s.ndig = 0 → exec .emit s = .next (s.faultedWith 5)) ∧
    (s.ndig ≠ 0 → 999 < (k + n - 1).natAbs → exec .emit s = .next (s.faultedWith 4)) ∧
    (s.ndig ≠ 0 → (k + n - 1).natAbs ≤ 999 → 25 < text.length → exec .emit s = .next (s.faultedWith 4)) ∧
    (s.ndig ≠ 0 → (k + n - 1).natAbs ≤ 999 → text.length ≤ 25 → ∃ t, exec .emit s = .next t ∧ s.Wrote text t ∧
      t = { s with out := t.out, outLen := t.outLen, busy := false, done := true, stateCode := 0 })

/-- R133: where EMIT completes and the first digit is no character below '0', the text begins with '-' exactly when NEG = 1. -/
def Obligations.EmitSignByte : Prop :=
  ∀ s t : State, 1 ≤ s.ndig.toNat → s.ndig.toNat ≤ 18 → 0x30 ≤ s.dig[0].toNat →
    exec .emit s = .next t → t.fault = false → s.fault = false →
    ((textOf t).head? = some 0x2D ↔ s.neg = true)

/-! ### The top level -/

/-- R132, R133, R136: SPECIAL for the three special classes; and it completes in every state, writing its own registers only. The
CLS = FINITE case, for which R132 gives no text, is the model's choice (log 12). -/
def Obligations.SpecialWritesFixedText : Prop :=
  ∀ s : State,
    let sign : List Byte := if s.neg then [0x2D] else []
    ∃ t, exec .special s = .next t ∧
      (s.cls = .nan → s.Wrote [0x4E, 0x61, 0x4E] t) ∧
      (s.cls = .infinite → s.Wrote (sign ++ [0x49, 0x6E, 0x66]) t) ∧
      (s.cls = .zero → s.Wrote (sign ++ [0x30]) t) ∧
      t = { s with
        out := t.out, outLen := t.outLen, ndig := 0, kexp := 0, busy := false, done := true, stateCode := 0 }

/-- R137: a special value takes exactly two steps, DECOMPOSE and SPECIAL, whatever the other registers hold. -/
def Obligations.SpecialValuesTakeTwoSteps : Prop :=
  ∀ s : State, s.Accepted → classify (bexpOf s.x) (fracOf s.x) ≠ .finite →
    let sign : List Byte := if s.x.getLsbD 63 then [0x2D] else []
    ∃ t t2 : State, runSteps 1 s = .next t ∧ t.busy = true ∧ t.stateCode = 0x2 ∧
      runSteps 2 s = .next t2 ∧ t2.busy = false ∧ t2.done = true ∧ t2.fault = false ∧ t2.stateCode = 0 ∧
      t2.neg = s.x.getLsbD 63 ∧ t2.ndig = 0 ∧ t2.kexp = 0 ∧
      (classify (bexpOf s.x) (fracOf s.x) = .nan → textOf t2 = [0x4E, 0x61, 0x4E]) ∧
      (classify (bexpOf s.x) (fracOf s.x) = .infinite → textOf t2 = sign ++ [0x49, 0x6E, 0x66]) ∧
      (classify (bexpOf s.x) (fracOf s.x) = .zero → textOf t2 = sign ++ [0x30])

/-- R137, R105, R103, R94: a finite value reaches the digit generator after DECOMPOSE BOUNDS NORMW PINIT PWALK^a MULW MULU MULL SETUP
with 1 ≤ a ≤ 3, without a fault, and there the cut, the gaps and the two parts lie in the ranges the spec derives. -/
def Obligations.FiniteValuesReachDigitGenerator : Prop :=
  ∀ s : State, s.Accepted → classify (bexpOf s.x) (fracOf s.x) = .finite →
    ∃ a : Nat, 1 ≤ a ∧ a ≤ 3 ∧ ∃ t : State, runSteps (8 + a) s = .next t ∧
      t.stateCode = 0xB ∧ t.busy = true ∧ t.fault = false ∧ t.cls = .finite ∧ t.neg = s.x.getLsbD 63 ∧
      34 ≤ t.cut.toNat ∧ t.cut.toNat ≤ 60 ∧ t.kappa = 10 ∧ t.ndig = 0 ∧
      765 ≤ t.delta.toNat ∧ 510 ≤ t.wfrac.toNat ∧ t.wfrac.toNat + 254 ≤ t.delta.toNat ∧ t.wsc = t.wfrac ∧
      t.p1.toNat < 2 ^ 30 ∧ t.p2.toNat < 2 ^ t.cut.toNat ∧ t.u.m.toNat = t.p1.toNat * 2 ^ t.cut.toNat + t.p2.toNat

/-- R138: every accepted conversion has ended after at most 48 steps of the sequencer. -/
def Obligations.ConversionEndsWithinBound : Prop :=
  ∀ s : State, s.Accepted →
    ∃ k : Nat, k ≤ 48 ∧ ∃ t : State, runSteps k s = .next t ∧ t.busy = false ∧ t.stateCode = 0 ∧ t.x = s.x ∧
      (t.done = true ∨ t.fault = true)

/-- R126, R145, R113: of the guard faults only OUTPUT_OVERFLOW can end an accepted conversion. -/
def Obligations.OnlyOutputOverflowCanFault : Prop :=
  ∀ (s t : State) (k : Nat), s.Accepted → runSteps k s = .next t → t.fault = false ∨ t.cause = 4

/-- R25, R126: the result of a conversion depends on X alone: no rule reads a register before the conversion has written it. -/
def Obligations.ConversionIgnoresLeftovers : Prop :=
  ∀ (s s' t t' : State) (k : Nat), s.Accepted → s'.Accepted → s.x = s'.x →
    runSteps k s = .next t → runSteps k s' = .next t' →
    t.stateCode = t'.stateCode ∧ t.busy = t'.busy ∧ t.done = t'.done ∧ t.fault = t'.fault ∧ t.cause = t'.cause ∧
    (t.done = true →
      t.cls = t'.cls ∧ t.neg = t'.neg ∧ t.outLen = t'.outLen ∧ t.ndig = t'.ndig ∧ t.kexp = t'.kexp ∧ textOf t = textOf t' ∧
      ∀ (i : Nat) (h : i < 18), i < t.ndig.toNat → t.dig[i] = t'.dig[i])

/-! ### The host's assembler -/

/-- R73: the expansions of the pseudo-instructions, as lines of host assembly and as the host accesses of R72, a poll being one read of
its loop (log 24) that ends the loop exactly when BUSY = 0 was read. -/
def Obligations.PseudoInstructionsExpand : Prop :=
  expand .nop = [.wr .cmd 0x0] ∧
  expand .convert = [.wr .cmd 0x1] ∧
  expand .wait = [.poll .status 0x1 0x0] ∧
  (∀ v, expand (.cvt v) = .wr .inR v :: (expand .convert ++ expand .wait)) ∧
  (expand .wait).map AsmLine.event = [.access 64 0x010 0] ∧
  (expand .nop).map AsmLine.event = [.access 64 0x108 0x0] ∧
  (expand .convert).map AsmLine.event = [.access 64 0x108 0x1] ∧
  (∀ v, (expand (.cvt v)).map AsmLine.event = [.access 64 0x100 v, .access 64 0x108 0x1, .access 64 0x010 0]) ∧
  (∀ s t : State, exec .rdStatus s = .next t → (pollEnds 0x1 0x0 t = true ↔ s.busy = false)) ∧
  (expand .readout).map AsmLine.event =
    [.access 64 0x010 0, .access 64 0x018 0, .access 64 0x020 0, .access 64 0x028 0, .access 64 0x030 0, .access 64 0x038 0]

/-! ### The host and the sequencer together -/

/-- R52: while BUSY = 0, and with no fault (after one a read may draw anew: U7, log 5), reading a register again returns the same value,
whatever else is pending (with DONE = 0 by the model's reading, log 7); reads of IN, CMD and STATUS repeat in every state. -/
def Obligations.ReadsRepeat : Prop :=
  ∀ (s t : State) (p : List Event) (n : Nat),
    (∀ i ∈ [Instr.rdIn, .rdCmd, .rdStatus], exec i s = .next t →
      exec i { t with pending := p, tick := n } = .next { t with pending := p, tick := n }) ∧
    (∀ i ∈ [Instr.rdResult, .rdOut0, .rdOut1, .rdOut2, .rdOut3, .rdDig0, .rdDig1, .rdDig2],
      s.busy = false → s.fault = false → exec i s = .next t →
        exec i { t with pending := p, tick := n } = .next { t with pending := p, tick := n })

/-- R171: while BUSY = 1 the sequencer takes its next step, or a reset comes, whatever the host does, an access that is not admitted
included: at most as many steps as events are pending come before it, and they leave the conversion as it is. That the list of events
is finite is the model's form of the fairness R171 assumes (log 1). -/
def Obligations.SequencerStepsWhateverTheHostDoes : Prop :=
  ∀ s : State, s.busy = true → s.stateCode ≠ 0 →
    ∃ k : Nat, k ≤ s.pending.length ∧ ∃ t : State, runSteps k s = .next t ∧
      t = { s with inReg := t.inReg, cmdErr := t.cmdErr, readData := t.readData, pending := t.pending, tick := t.tick } ∧
      (nextEvent t = .turn ∨ nextEvent t = .reset)

/-- R56, R171, R138: whatever the host does meanwhile, an accepted conversion that no reset abandons ends within 48 steps and one for each
pending event, in the state in which it ends undisturbed, but for IN, CMD_ERR and the model's own fields. -/
def Obligations.ConversionEndsAlikeWhateverTheHostDoes : Prop :=
  ∀ (s : State) (p : List Event), s.Accepted → Event.reset ∉ p →
    ∃ j k : Nat, j ≤ 48 ∧ k ≤ 48 + p.length ∧ ∃ t u : State,
      runSteps j s = .next u ∧ u.busy = false ∧ runSteps k { s with pending := p } = .next t ∧
      t = { u with inReg := t.inReg, cmdErr := t.cmdErr, readData := t.readData, pending := t.pending, tick := t.tick }
end

