-- ==== Sys2Proof/Laws/State.lean ====
section
/-! SUPPORT. One lemma for each field and each shared update of the state, so that no proof unfolds an update. -/

namespace Sys2Proof.Machine

/-! ### raiseFault -/

@[simp] theorem raiseFault_inReg (c : FaultCause) (s : State) : (raiseFault c s).inReg = s.inReg := rfl
@[simp] theorem raiseFault_x (c : FaultCause) (s : State) : (raiseFault c s).x = s.x := rfl
@[simp] theorem raiseFault_busy (c : FaultCause) (s : State) : (raiseFault c s).busy = false := rfl
@[simp] theorem raiseFault_done (c : FaultCause) (s : State) : (raiseFault c s).done = false := rfl
@[simp] theorem raiseFault_fault (c : FaultCause) (s : State) : (raiseFault c s).fault = true := rfl
@[simp] theorem raiseFault_cmdErr (c : FaultCause) (s : State) : (raiseFault c s).cmdErr = s.cmdErr := rfl
@[simp] theorem raiseFault_cause (c : FaultCause) (s : State) : (raiseFault c s).cause = causeCode c := rfl
@[simp] theorem raiseFault_cls (c : FaultCause) (s : State) : (raiseFault c s).cls = s.cls := rfl
@[simp] theorem raiseFault_neg (c : FaultCause) (s : State) : (raiseFault c s).neg = s.neg := rfl
@[simp] theorem raiseFault_stateCode (c : FaultCause) (s : State) : (raiseFault c s).stateCode = Uop.idle := rfl
@[simp] theorem raiseFault_f (c : FaultCause) (s : State) : (raiseFault c s).f = s.f := rfl
@[simp] theorem raiseFault_w (c : FaultCause) (s : State) : (raiseFault c s).w = s.w := rfl
@[simp] theorem raiseFault_u (c : FaultCause) (s : State) : (raiseFault c s).u = s.u := rfl
@[simp] theorem raiseFault_l (c : FaultCause) (s : State) : (raiseFault c s).l = s.l := rfl
@[simp] theorem raiseFault_cp (c : FaultCause) (s : State) : (raiseFault c s).cp = s.cp := rfl
@[simp] theorem raiseFault_idx (c : FaultCause) (s : State) : (raiseFault c s).idx = s.idx := rfl
@[simp] theorem raiseFault_kdec (c : FaultCause) (s : State) : (raiseFault c s).kdec = s.kdec := rfl
@[simp] theorem raiseFault_cut (c : FaultCause) (s : State) : (raiseFault c s).cut = s.cut := rfl
@[simp] theorem raiseFault_p1 (c : FaultCause) (s : State) : (raiseFault c s).p1 = s.p1 := rfl
@[simp] theorem raiseFault_p2 (c : FaultCause) (s : State) : (raiseFault c s).p2 = s.p2 := rfl
@[simp] theorem raiseFault_delta (c : FaultCause) (s : State) : (raiseFault c s).delta = s.delta := rfl
@[simp] theorem raiseFault_wfrac (c : FaultCause) (s : State) : (raiseFault c s).wfrac = s.wfrac := rfl
@[simp] theorem raiseFault_wsc (c : FaultCause) (s : State) : (raiseFault c s).wsc = s.wsc := rfl
@[simp] theorem raiseFault_kappa (c : FaultCause) (s : State) : (raiseFault c s).kappa = s.kappa := rfl
@[simp] theorem raiseFault_kexp (c : FaultCause) (s : State) : (raiseFault c s).kexp = s.kexp := rfl
@[simp] theorem raiseFault_rem (c : FaultCause) (s : State) : (raiseFault c s).rem = s.rem := rfl
@[simp] theorem raiseFault_unit (c : FaultCause) (s : State) : (raiseFault c s).unit = s.unit := rfl
@[simp] theorem raiseFault_dig (c : FaultCause) (s : State) : (raiseFault c s).dig = s.dig := rfl
@[simp] theorem raiseFault_ndig (c : FaultCause) (s : State) : (raiseFault c s).ndig = s.ndig := rfl
@[simp] theorem raiseFault_out (c : FaultCause) (s : State) : (raiseFault c s).out = s.out := rfl
@[simp] theorem raiseFault_outLen (c : FaultCause) (s : State) : (raiseFault c s).outLen = s.outLen := rfl
@[simp] theorem raiseFault_pending (c : FaultCause) (s : State) : (raiseFault c s).pending = s.pending := rfl
@[simp] theorem raiseFault_readData (c : FaultCause) (s : State) : (raiseFault c s).readData = s.readData := rfl
@[simp] theorem raiseFault_tick (c : FaultCause) (s : State) : (raiseFault c s).tick = s.tick := rfl

/-! ### acceptConvert -/

@[simp] theorem acceptConvert_inReg (s : State) : (acceptConvert s).inReg = s.inReg := rfl
@[simp] theorem acceptConvert_x (s : State) : (acceptConvert s).x = s.inReg := rfl
@[simp] theorem acceptConvert_busy (s : State) : (acceptConvert s).busy = true := rfl
@[simp] theorem acceptConvert_done (s : State) : (acceptConvert s).done = false := rfl
@[simp] theorem acceptConvert_fault (s : State) : (acceptConvert s).fault = false := rfl
@[simp] theorem acceptConvert_cmdErr (s : State) : (acceptConvert s).cmdErr = false := rfl
@[simp] theorem acceptConvert_cause (s : State) : (acceptConvert s).cause = 0 := rfl
@[simp] theorem acceptConvert_cls (s : State) : (acceptConvert s).cls = s.cls := rfl
@[simp] theorem acceptConvert_neg (s : State) : (acceptConvert s).neg = s.neg := rfl
@[simp] theorem acceptConvert_stateCode (s : State) : (acceptConvert s).stateCode = Uop.decompose := rfl
@[simp] theorem acceptConvert_f (s : State) : (acceptConvert s).f = s.f := rfl
@[simp] theorem acceptConvert_w (s : State) : (acceptConvert s).w = s.w := rfl
@[simp] theorem acceptConvert_u (s : State) : (acceptConvert s).u = s.u := rfl
@[simp] theorem acceptConvert_l (s : State) : (acceptConvert s).l = s.l := rfl
@[simp] theorem acceptConvert_cp (s : State) : (acceptConvert s).cp = s.cp := rfl
@[simp] theorem acceptConvert_idx (s : State) : (acceptConvert s).idx = s.idx := rfl
@[simp] theorem acceptConvert_kdec (s : State) : (acceptConvert s).kdec = s.kdec := rfl
@[simp] theorem acceptConvert_cut (s : State) : (acceptConvert s).cut = s.cut := rfl
@[simp] theorem acceptConvert_p1 (s : State) : (acceptConvert s).p1 = s.p1 := rfl
@[simp] theorem acceptConvert_p2 (s : State) : (acceptConvert s).p2 = s.p2 := rfl
@[simp] theorem acceptConvert_delta (s : State) : (acceptConvert s).delta = s.delta := rfl
@[simp] theorem acceptConvert_wfrac (s : State) : (acceptConvert s).wfrac = s.wfrac := rfl
@[simp] theorem acceptConvert_wsc (s : State) : (acceptConvert s).wsc = s.wsc := rfl
@[simp] theorem acceptConvert_kappa (s : State) : (acceptConvert s).kappa = s.kappa := rfl
@[simp] theorem acceptConvert_kexp (s : State) : (acceptConvert s).kexp = s.kexp := rfl
@[simp] theorem acceptConvert_rem (s : State) : (acceptConvert s).rem = s.rem := rfl
@[simp] theorem acceptConvert_unit (s : State) : (acceptConvert s).unit = s.unit := rfl
@[simp] theorem acceptConvert_dig (s : State) : (acceptConvert s).dig = s.dig := rfl
@[simp] theorem acceptConvert_ndig (s : State) : (acceptConvert s).ndig = s.ndig := rfl
@[simp] theorem acceptConvert_out (s : State) : (acceptConvert s).out = s.out := rfl
@[simp] theorem acceptConvert_outLen (s : State) : (acceptConvert s).outLen = s.outLen := rfl
@[simp] theorem acceptConvert_pending (s : State) : (acceptConvert s).pending = s.pending := rfl
@[simp] theorem acceptConvert_readData (s : State) : (acceptConvert s).readData = s.readData := rfl
@[simp] theorem acceptConvert_tick (s : State) : (acceptConvert s).tick = s.tick := rfl

/-! ### rejectCommand -/

@[simp] theorem rejectCommand_inReg (s : State) : (rejectCommand s).inReg = s.inReg := rfl
@[simp] theorem rejectCommand_x (s : State) : (rejectCommand s).x = s.x := rfl
@[simp] theorem rejectCommand_busy (s : State) : (rejectCommand s).busy = s.busy := rfl
@[simp] theorem rejectCommand_done (s : State) : (rejectCommand s).done = s.done := rfl
@[simp] theorem rejectCommand_fault (s : State) : (rejectCommand s).fault = s.fault := rfl
@[simp] theorem rejectCommand_cmdErr (s : State) : (rejectCommand s).cmdErr = true := rfl
@[simp] theorem rejectCommand_cause (s : State) : (rejectCommand s).cause = s.cause := rfl
@[simp] theorem rejectCommand_cls (s : State) : (rejectCommand s).cls = s.cls := rfl
@[simp] theorem rejectCommand_neg (s : State) : (rejectCommand s).neg = s.neg := rfl
@[simp] theorem rejectCommand_stateCode (s : State) : (rejectCommand s).stateCode = s.stateCode := rfl
@[simp] theorem rejectCommand_f (s : State) : (rejectCommand s).f = s.f := rfl
@[simp] theorem rejectCommand_w (s : State) : (rejectCommand s).w = s.w := rfl
@[simp] theorem rejectCommand_u (s : State) : (rejectCommand s).u = s.u := rfl
@[simp] theorem rejectCommand_l (s : State) : (rejectCommand s).l = s.l := rfl
@[simp] theorem rejectCommand_cp (s : State) : (rejectCommand s).cp = s.cp := rfl
@[simp] theorem rejectCommand_idx (s : State) : (rejectCommand s).idx = s.idx := rfl
@[simp] theorem rejectCommand_kdec (s : State) : (rejectCommand s).kdec = s.kdec := rfl
@[simp] theorem rejectCommand_cut (s : State) : (rejectCommand s).cut = s.cut := rfl
@[simp] theorem rejectCommand_p1 (s : State) : (rejectCommand s).p1 = s.p1 := rfl
@[simp] theorem rejectCommand_p2 (s : State) : (rejectCommand s).p2 = s.p2 := rfl
@[simp] theorem rejectCommand_delta (s : State) : (rejectCommand s).delta = s.delta := rfl
@[simp] theorem rejectCommand_wfrac (s : State) : (rejectCommand s).wfrac = s.wfrac := rfl
@[simp] theorem rejectCommand_wsc (s : State) : (rejectCommand s).wsc = s.wsc := rfl
@[simp] theorem rejectCommand_kappa (s : State) : (rejectCommand s).kappa = s.kappa := rfl
@[simp] theorem rejectCommand_kexp (s : State) : (rejectCommand s).kexp = s.kexp := rfl
@[simp] theorem rejectCommand_rem (s : State) : (rejectCommand s).rem = s.rem := rfl
@[simp] theorem rejectCommand_unit (s : State) : (rejectCommand s).unit = s.unit := rfl
@[simp] theorem rejectCommand_dig (s : State) : (rejectCommand s).dig = s.dig := rfl
@[simp] theorem rejectCommand_ndig (s : State) : (rejectCommand s).ndig = s.ndig := rfl
@[simp] theorem rejectCommand_out (s : State) : (rejectCommand s).out = s.out := rfl
@[simp] theorem rejectCommand_outLen (s : State) : (rejectCommand s).outLen = s.outLen := rfl
@[simp] theorem rejectCommand_pending (s : State) : (rejectCommand s).pending = s.pending := rfl
@[simp] theorem rejectCommand_readData (s : State) : (rejectCommand s).readData = s.readData := rfl
@[simp] theorem rejectCommand_tick (s : State) : (rejectCommand s).tick = s.tick := rfl

/-! ### complete -/

@[simp] theorem complete_inReg (s : State) : (complete s).inReg = s.inReg := rfl
@[simp] theorem complete_x (s : State) : (complete s).x = s.x := rfl
@[simp] theorem complete_busy (s : State) : (complete s).busy = false := rfl
@[simp] theorem complete_done (s : State) : (complete s).done = true := rfl
@[simp] theorem complete_fault (s : State) : (complete s).fault = s.fault := rfl
@[simp] theorem complete_cmdErr (s : State) : (complete s).cmdErr = s.cmdErr := rfl
@[simp] theorem complete_cause (s : State) : (complete s).cause = s.cause := rfl
@[simp] theorem complete_cls (s : State) : (complete s).cls = s.cls := rfl
@[simp] theorem complete_neg (s : State) : (complete s).neg = s.neg := rfl
@[simp] theorem complete_stateCode (s : State) : (complete s).stateCode = Uop.idle := rfl
@[simp] theorem complete_f (s : State) : (complete s).f = s.f := rfl
@[simp] theorem complete_w (s : State) : (complete s).w = s.w := rfl
@[simp] theorem complete_u (s : State) : (complete s).u = s.u := rfl
@[simp] theorem complete_l (s : State) : (complete s).l = s.l := rfl
@[simp] theorem complete_cp (s : State) : (complete s).cp = s.cp := rfl
@[simp] theorem complete_idx (s : State) : (complete s).idx = s.idx := rfl
@[simp] theorem complete_kdec (s : State) : (complete s).kdec = s.kdec := rfl
@[simp] theorem complete_cut (s : State) : (complete s).cut = s.cut := rfl
@[simp] theorem complete_p1 (s : State) : (complete s).p1 = s.p1 := rfl
@[simp] theorem complete_p2 (s : State) : (complete s).p2 = s.p2 := rfl
@[simp] theorem complete_delta (s : State) : (complete s).delta = s.delta := rfl
@[simp] theorem complete_wfrac (s : State) : (complete s).wfrac = s.wfrac := rfl
@[simp] theorem complete_wsc (s : State) : (complete s).wsc = s.wsc := rfl
@[simp] theorem complete_kappa (s : State) : (complete s).kappa = s.kappa := rfl
@[simp] theorem complete_kexp (s : State) : (complete s).kexp = s.kexp := rfl
@[simp] theorem complete_rem (s : State) : (complete s).rem = s.rem := rfl
@[simp] theorem complete_unit (s : State) : (complete s).unit = s.unit := rfl
@[simp] theorem complete_dig (s : State) : (complete s).dig = s.dig := rfl
@[simp] theorem complete_ndig (s : State) : (complete s).ndig = s.ndig := rfl
@[simp] theorem complete_out (s : State) : (complete s).out = s.out := rfl
@[simp] theorem complete_outLen (s : State) : (complete s).outLen = s.outLen := rfl
@[simp] theorem complete_pending (s : State) : (complete s).pending = s.pending := rfl
@[simp] theorem complete_readData (s : State) : (complete s).readData = s.readData := rfl
@[simp] theorem complete_tick (s : State) : (complete s).tick = s.tick := rfl

/-! ### returnData -/

@[simp] theorem returnData_inReg (v : U64) (s : State) : (returnData v s).inReg = s.inReg := rfl
@[simp] theorem returnData_x (v : U64) (s : State) : (returnData v s).x = s.x := rfl
@[simp] theorem returnData_busy (v : U64) (s : State) : (returnData v s).busy = s.busy := rfl
@[simp] theorem returnData_done (v : U64) (s : State) : (returnData v s).done = s.done := rfl
@[simp] theorem returnData_fault (v : U64) (s : State) : (returnData v s).fault = s.fault := rfl
@[simp] theorem returnData_cmdErr (v : U64) (s : State) : (returnData v s).cmdErr = s.cmdErr := rfl
@[simp] theorem returnData_cause (v : U64) (s : State) : (returnData v s).cause = s.cause := rfl
@[simp] theorem returnData_cls (v : U64) (s : State) : (returnData v s).cls = s.cls := rfl
@[simp] theorem returnData_neg (v : U64) (s : State) : (returnData v s).neg = s.neg := rfl
@[simp] theorem returnData_stateCode (v : U64) (s : State) : (returnData v s).stateCode = s.stateCode := rfl
@[simp] theorem returnData_f (v : U64) (s : State) : (returnData v s).f = s.f := rfl
@[simp] theorem returnData_w (v : U64) (s : State) : (returnData v s).w = s.w := rfl
@[simp] theorem returnData_u (v : U64) (s : State) : (returnData v s).u = s.u := rfl
@[simp] theorem returnData_l (v : U64) (s : State) : (returnData v s).l = s.l := rfl
@[simp] theorem returnData_cp (v : U64) (s : State) : (returnData v s).cp = s.cp := rfl
@[simp] theorem returnData_idx (v : U64) (s : State) : (returnData v s).idx = s.idx := rfl
@[simp] theorem returnData_kdec (v : U64) (s : State) : (returnData v s).kdec = s.kdec := rfl
@[simp] theorem returnData_cut (v : U64) (s : State) : (returnData v s).cut = s.cut := rfl
@[simp] theorem returnData_p1 (v : U64) (s : State) : (returnData v s).p1 = s.p1 := rfl
@[simp] theorem returnData_p2 (v : U64) (s : State) : (returnData v s).p2 = s.p2 := rfl
@[simp] theorem returnData_delta (v : U64) (s : State) : (returnData v s).delta = s.delta := rfl
@[simp] theorem returnData_wfrac (v : U64) (s : State) : (returnData v s).wfrac = s.wfrac := rfl
@[simp] theorem returnData_wsc (v : U64) (s : State) : (returnData v s).wsc = s.wsc := rfl
@[simp] theorem returnData_kappa (v : U64) (s : State) : (returnData v s).kappa = s.kappa := rfl
@[simp] theorem returnData_kexp (v : U64) (s : State) : (returnData v s).kexp = s.kexp := rfl
@[simp] theorem returnData_rem (v : U64) (s : State) : (returnData v s).rem = s.rem := rfl
@[simp] theorem returnData_unit (v : U64) (s : State) : (returnData v s).unit = s.unit := rfl
@[simp] theorem returnData_dig (v : U64) (s : State) : (returnData v s).dig = s.dig := rfl
@[simp] theorem returnData_ndig (v : U64) (s : State) : (returnData v s).ndig = s.ndig := rfl
@[simp] theorem returnData_out (v : U64) (s : State) : (returnData v s).out = s.out := rfl
@[simp] theorem returnData_outLen (v : U64) (s : State) : (returnData v s).outLen = s.outLen := rfl
@[simp] theorem returnData_pending (v : U64) (s : State) : (returnData v s).pending = s.pending := rfl
@[simp] theorem returnData_readData (v : U64) (s : State) : (returnData v s).readData = v := rfl
@[simp] theorem returnData_tick (v : U64) (s : State) : (returnData v s).tick = s.tick := rfl

/-! ### goto -/

@[simp] theorem goto_inReg (c : BitVec 4) (s : State) : (goto c s).inReg = s.inReg := rfl
@[simp] theorem goto_x (c : BitVec 4) (s : State) : (goto c s).x = s.x := rfl
@[simp] theorem goto_busy (c : BitVec 4) (s : State) : (goto c s).busy = s.busy := rfl
@[simp] theorem goto_done (c : BitVec 4) (s : State) : (goto c s).done = s.done := rfl
@[simp] theorem goto_fault (c : BitVec 4) (s : State) : (goto c s).fault = s.fault := rfl
@[simp] theorem goto_cmdErr (c : BitVec 4) (s : State) : (goto c s).cmdErr = s.cmdErr := rfl
@[simp] theorem goto_cause (c : BitVec 4) (s : State) : (goto c s).cause = s.cause := rfl
@[simp] theorem goto_cls (c : BitVec 4) (s : State) : (goto c s).cls = s.cls := rfl
@[simp] theorem goto_neg (c : BitVec 4) (s : State) : (goto c s).neg = s.neg := rfl
@[simp] theorem goto_stateCode (c : BitVec 4) (s : State) : (goto c s).stateCode = c := rfl
@[simp] theorem goto_f (c : BitVec 4) (s : State) : (goto c s).f = s.f := rfl
@[simp] theorem goto_w (c : BitVec 4) (s : State) : (goto c s).w = s.w := rfl
@[simp] theorem goto_u (c : BitVec 4) (s : State) : (goto c s).u = s.u := rfl
@[simp] theorem goto_l (c : BitVec 4) (s : State) : (goto c s).l = s.l := rfl
@[simp] theorem goto_cp (c : BitVec 4) (s : State) : (goto c s).cp = s.cp := rfl
@[simp] theorem goto_idx (c : BitVec 4) (s : State) : (goto c s).idx = s.idx := rfl
@[simp] theorem goto_kdec (c : BitVec 4) (s : State) : (goto c s).kdec = s.kdec := rfl
@[simp] theorem goto_cut (c : BitVec 4) (s : State) : (goto c s).cut = s.cut := rfl
@[simp] theorem goto_p1 (c : BitVec 4) (s : State) : (goto c s).p1 = s.p1 := rfl
@[simp] theorem goto_p2 (c : BitVec 4) (s : State) : (goto c s).p2 = s.p2 := rfl
@[simp] theorem goto_delta (c : BitVec 4) (s : State) : (goto c s).delta = s.delta := rfl
@[simp] theorem goto_wfrac (c : BitVec 4) (s : State) : (goto c s).wfrac = s.wfrac := rfl
@[simp] theorem goto_wsc (c : BitVec 4) (s : State) : (goto c s).wsc = s.wsc := rfl
@[simp] theorem goto_kappa (c : BitVec 4) (s : State) : (goto c s).kappa = s.kappa := rfl
@[simp] theorem goto_kexp (c : BitVec 4) (s : State) : (goto c s).kexp = s.kexp := rfl
@[simp] theorem goto_rem (c : BitVec 4) (s : State) : (goto c s).rem = s.rem := rfl
@[simp] theorem goto_unit (c : BitVec 4) (s : State) : (goto c s).unit = s.unit := rfl
@[simp] theorem goto_dig (c : BitVec 4) (s : State) : (goto c s).dig = s.dig := rfl
@[simp] theorem goto_ndig (c : BitVec 4) (s : State) : (goto c s).ndig = s.ndig := rfl
@[simp] theorem goto_out (c : BitVec 4) (s : State) : (goto c s).out = s.out := rfl
@[simp] theorem goto_outLen (c : BitVec 4) (s : State) : (goto c s).outLen = s.outLen := rfl
@[simp] theorem goto_pending (c : BitVec 4) (s : State) : (goto c s).pending = s.pending := rfl
@[simp] theorem goto_readData (c : BitVec 4) (s : State) : (goto c s).readData = s.readData := rfl
@[simp] theorem goto_tick (c : BitVec 4) (s : State) : (goto c s).tick = s.tick := rfl

/-! ### writeDig -/

@[simp] theorem writeDig_inReg (i : Nat) (b : Byte) (s : State) : (writeDig i b s).inReg = s.inReg := rfl
@[simp] theorem writeDig_x (i : Nat) (b : Byte) (s : State) : (writeDig i b s).x = s.x := rfl
@[simp] theorem writeDig_busy (i : Nat) (b : Byte) (s : State) : (writeDig i b s).busy = s.busy := rfl
@[simp] theorem writeDig_done (i : Nat) (b : Byte) (s : State) : (writeDig i b s).done = s.done := rfl
@[simp] theorem writeDig_fault (i : Nat) (b : Byte) (s : State) : (writeDig i b s).fault = s.fault := rfl
@[simp] theorem writeDig_cmdErr (i : Nat) (b : Byte) (s : State) : (writeDig i b s).cmdErr = s.cmdErr := rfl
@[simp] theorem writeDig_cause (i : Nat) (b : Byte) (s : State) : (writeDig i b s).cause = s.cause := rfl
@[simp] theorem writeDig_cls (i : Nat) (b : Byte) (s : State) : (writeDig i b s).cls = s.cls := rfl
@[simp] theorem writeDig_neg (i : Nat) (b : Byte) (s : State) : (writeDig i b s).neg = s.neg := rfl
@[simp] theorem writeDig_stateCode (i : Nat) (b : Byte) (s : State) : (writeDig i b s).stateCode = s.stateCode := rfl
@[simp] theorem writeDig_f (i : Nat) (b : Byte) (s : State) : (writeDig i b s).f = s.f := rfl
@[simp] theorem writeDig_w (i : Nat) (b : Byte) (s : State) : (writeDig i b s).w = s.w := rfl
@[simp] theorem writeDig_u (i : Nat) (b : Byte) (s : State) : (writeDig i b s).u = s.u := rfl
@[simp] theorem writeDig_l (i : Nat) (b : Byte) (s : State) : (writeDig i b s).l = s.l := rfl
@[simp] theorem writeDig_cp (i : Nat) (b : Byte) (s : State) : (writeDig i b s).cp = s.cp := rfl
@[simp] theorem writeDig_idx (i : Nat) (b : Byte) (s : State) : (writeDig i b s).idx = s.idx := rfl
@[simp] theorem writeDig_kdec (i : Nat) (b : Byte) (s : State) : (writeDig i b s).kdec = s.kdec := rfl
@[simp] theorem writeDig_cut (i : Nat) (b : Byte) (s : State) : (writeDig i b s).cut = s.cut := rfl
@[simp] theorem writeDig_p1 (i : Nat) (b : Byte) (s : State) : (writeDig i b s).p1 = s.p1 := rfl
@[simp] theorem writeDig_p2 (i : Nat) (b : Byte) (s : State) : (writeDig i b s).p2 = s.p2 := rfl
@[simp] theorem writeDig_delta (i : Nat) (b : Byte) (s : State) : (writeDig i b s).delta = s.delta := rfl
@[simp] theorem writeDig_wfrac (i : Nat) (b : Byte) (s : State) : (writeDig i b s).wfrac = s.wfrac := rfl
@[simp] theorem writeDig_wsc (i : Nat) (b : Byte) (s : State) : (writeDig i b s).wsc = s.wsc := rfl
@[simp] theorem writeDig_kappa (i : Nat) (b : Byte) (s : State) : (writeDig i b s).kappa = s.kappa := rfl
@[simp] theorem writeDig_kexp (i : Nat) (b : Byte) (s : State) : (writeDig i b s).kexp = s.kexp := rfl
@[simp] theorem writeDig_rem (i : Nat) (b : Byte) (s : State) : (writeDig i b s).rem = s.rem := rfl
@[simp] theorem writeDig_unit (i : Nat) (b : Byte) (s : State) : (writeDig i b s).unit = s.unit := rfl
@[simp] theorem writeDig_dig (i : Nat) (b : Byte) (s : State) : (writeDig i b s).dig = s.dig.setIfInBounds i b := rfl
@[simp] theorem writeDig_ndig (i : Nat) (b : Byte) (s : State) : (writeDig i b s).ndig = s.ndig := rfl
@[simp] theorem writeDig_out (i : Nat) (b : Byte) (s : State) : (writeDig i b s).out = s.out := rfl
@[simp] theorem writeDig_outLen (i : Nat) (b : Byte) (s : State) : (writeDig i b s).outLen = s.outLen := rfl
@[simp] theorem writeDig_pending (i : Nat) (b : Byte) (s : State) : (writeDig i b s).pending = s.pending := rfl
@[simp] theorem writeDig_readData (i : Nat) (b : Byte) (s : State) : (writeDig i b s).readData = s.readData := rfl
@[simp] theorem writeDig_tick (i : Nat) (b : Byte) (s : State) : (writeDig i b s).tick = s.tick := rfl

/-! ### writeText -/

@[simp] theorem writeText_inReg (t : List Byte) (s : State) : (writeText t s).inReg = s.inReg := rfl
@[simp] theorem writeText_x (t : List Byte) (s : State) : (writeText t s).x = s.x := rfl
@[simp] theorem writeText_busy (t : List Byte) (s : State) : (writeText t s).busy = s.busy := rfl
@[simp] theorem writeText_done (t : List Byte) (s : State) : (writeText t s).done = s.done := rfl
@[simp] theorem writeText_fault (t : List Byte) (s : State) : (writeText t s).fault = s.fault := rfl
@[simp] theorem writeText_cmdErr (t : List Byte) (s : State) : (writeText t s).cmdErr = s.cmdErr := rfl
@[simp] theorem writeText_cause (t : List Byte) (s : State) : (writeText t s).cause = s.cause := rfl
@[simp] theorem writeText_cls (t : List Byte) (s : State) : (writeText t s).cls = s.cls := rfl
@[simp] theorem writeText_neg (t : List Byte) (s : State) : (writeText t s).neg = s.neg := rfl
@[simp] theorem writeText_stateCode (t : List Byte) (s : State) : (writeText t s).stateCode = s.stateCode := rfl
@[simp] theorem writeText_f (t : List Byte) (s : State) : (writeText t s).f = s.f := rfl
@[simp] theorem writeText_w (t : List Byte) (s : State) : (writeText t s).w = s.w := rfl
@[simp] theorem writeText_u (t : List Byte) (s : State) : (writeText t s).u = s.u := rfl
@[simp] theorem writeText_l (t : List Byte) (s : State) : (writeText t s).l = s.l := rfl
@[simp] theorem writeText_cp (t : List Byte) (s : State) : (writeText t s).cp = s.cp := rfl
@[simp] theorem writeText_idx (t : List Byte) (s : State) : (writeText t s).idx = s.idx := rfl
@[simp] theorem writeText_kdec (t : List Byte) (s : State) : (writeText t s).kdec = s.kdec := rfl
@[simp] theorem writeText_cut (t : List Byte) (s : State) : (writeText t s).cut = s.cut := rfl
@[simp] theorem writeText_p1 (t : List Byte) (s : State) : (writeText t s).p1 = s.p1 := rfl
@[simp] theorem writeText_p2 (t : List Byte) (s : State) : (writeText t s).p2 = s.p2 := rfl
@[simp] theorem writeText_delta (t : List Byte) (s : State) : (writeText t s).delta = s.delta := rfl
@[simp] theorem writeText_wfrac (t : List Byte) (s : State) : (writeText t s).wfrac = s.wfrac := rfl
@[simp] theorem writeText_wsc (t : List Byte) (s : State) : (writeText t s).wsc = s.wsc := rfl
@[simp] theorem writeText_kappa (t : List Byte) (s : State) : (writeText t s).kappa = s.kappa := rfl
@[simp] theorem writeText_kexp (t : List Byte) (s : State) : (writeText t s).kexp = s.kexp := rfl
@[simp] theorem writeText_rem (t : List Byte) (s : State) : (writeText t s).rem = s.rem := rfl
@[simp] theorem writeText_unit (t : List Byte) (s : State) : (writeText t s).unit = s.unit := rfl
@[simp] theorem writeText_dig (t : List Byte) (s : State) : (writeText t s).dig = s.dig := rfl
@[simp] theorem writeText_ndig (t : List Byte) (s : State) : (writeText t s).ndig = s.ndig := rfl
@[simp] theorem writeText_out (t : List Byte) (s : State) : (writeText t s).out = writeBytes t 0 s.out := rfl
@[simp] theorem writeText_outLen (t : List Byte) (s : State) : (writeText t s).outLen = toU5 t.length := rfl
@[simp] theorem writeText_pending (t : List Byte) (s : State) : (writeText t s).pending = s.pending := rfl
@[simp] theorem writeText_readData (t : List Byte) (s : State) : (writeText t s).readData = s.readData := rfl
@[simp] theorem writeText_tick (t : List Byte) (s : State) : (writeText t s).tick = s.tick := rfl

/-! ### advance -/

@[simp] theorem advance_inReg (s : State) : (advance s).inReg = s.inReg := rfl
@[simp] theorem advance_x (s : State) : (advance s).x = s.x := rfl
@[simp] theorem advance_busy (s : State) : (advance s).busy = s.busy := rfl
@[simp] theorem advance_done (s : State) : (advance s).done = s.done := rfl
@[simp] theorem advance_fault (s : State) : (advance s).fault = s.fault := rfl
@[simp] theorem advance_cmdErr (s : State) : (advance s).cmdErr = s.cmdErr := rfl
@[simp] theorem advance_cause (s : State) : (advance s).cause = s.cause := rfl
@[simp] theorem advance_cls (s : State) : (advance s).cls = s.cls := rfl
@[simp] theorem advance_neg (s : State) : (advance s).neg = s.neg := rfl
@[simp] theorem advance_stateCode (s : State) : (advance s).stateCode = s.stateCode := rfl
@[simp] theorem advance_f (s : State) : (advance s).f = s.f := rfl
@[simp] theorem advance_w (s : State) : (advance s).w = s.w := rfl
@[simp] theorem advance_u (s : State) : (advance s).u = s.u := rfl
@[simp] theorem advance_l (s : State) : (advance s).l = s.l := rfl
@[simp] theorem advance_cp (s : State) : (advance s).cp = s.cp := rfl
@[simp] theorem advance_idx (s : State) : (advance s).idx = s.idx := rfl
@[simp] theorem advance_kdec (s : State) : (advance s).kdec = s.kdec := rfl
@[simp] theorem advance_cut (s : State) : (advance s).cut = s.cut := rfl
@[simp] theorem advance_p1 (s : State) : (advance s).p1 = s.p1 := rfl
@[simp] theorem advance_p2 (s : State) : (advance s).p2 = s.p2 := rfl
@[simp] theorem advance_delta (s : State) : (advance s).delta = s.delta := rfl
@[simp] theorem advance_wfrac (s : State) : (advance s).wfrac = s.wfrac := rfl
@[simp] theorem advance_wsc (s : State) : (advance s).wsc = s.wsc := rfl
@[simp] theorem advance_kappa (s : State) : (advance s).kappa = s.kappa := rfl
@[simp] theorem advance_kexp (s : State) : (advance s).kexp = s.kexp := rfl
@[simp] theorem advance_rem (s : State) : (advance s).rem = s.rem := rfl
@[simp] theorem advance_unit (s : State) : (advance s).unit = s.unit := rfl
@[simp] theorem advance_dig (s : State) : (advance s).dig = s.dig := rfl
@[simp] theorem advance_ndig (s : State) : (advance s).ndig = s.ndig := rfl
@[simp] theorem advance_out (s : State) : (advance s).out = s.out := rfl
@[simp] theorem advance_outLen (s : State) : (advance s).outLen = s.outLen := rfl
@[simp] theorem advance_pending (s : State) : (advance s).pending = remaining s.pending := rfl
@[simp] theorem advance_readData (s : State) : (advance s).readData = s.readData := rfl
@[simp] theorem advance_tick (s : State) : (advance s).tick = s.tick + 1 := rfl

/-! ### freshOut, freshDig -/

@[simp] theorem getElem_freshOut (n i : Nat) (h : i < 25) : (freshOut n)[i] = Config.resetOutByte n i := by simp [freshOut]
@[simp] theorem getElem_freshDig (n i : Nat) (h : i < 18) : (freshDig n)[i] = Config.resetDigByte n i := by simp [freshDig]

/-! ### applyReset -/

@[simp] theorem applyReset_inReg (s : State) : (applyReset s).inReg = 0 := rfl
@[simp] theorem applyReset_x (s : State) : (applyReset s).x = Config.resetU64 s.tick 0 := rfl
@[simp] theorem applyReset_busy (s : State) : (applyReset s).busy = false := rfl
@[simp] theorem applyReset_done (s : State) : (applyReset s).done = false := rfl
@[simp] theorem applyReset_fault (s : State) : (applyReset s).fault = false := rfl
@[simp] theorem applyReset_cmdErr (s : State) : (applyReset s).cmdErr = false := rfl
@[simp] theorem applyReset_cause (s : State) : (applyReset s).cause = 0 := rfl
@[simp] theorem applyReset_cls (s : State) : (applyReset s).cls = .finite := rfl
@[simp] theorem applyReset_neg (s : State) : (applyReset s).neg = false := rfl
@[simp] theorem applyReset_stateCode (s : State) : (applyReset s).stateCode = Uop.idle := rfl
@[simp] theorem applyReset_f (s : State) : (applyReset s).f = resetDec s.tick 1 := rfl
@[simp] theorem applyReset_w (s : State) : (applyReset s).w = resetDec s.tick 2 := rfl
@[simp] theorem applyReset_u (s : State) : (applyReset s).u = resetDec s.tick 3 := rfl
@[simp] theorem applyReset_l (s : State) : (applyReset s).l = resetDec s.tick 4 := rfl
@[simp] theorem applyReset_cp (s : State) : (applyReset s).cp = resetDec s.tick 5 := rfl
@[simp] theorem applyReset_idx (s : State) : (applyReset s).idx = Config.resetIdx s.tick := rfl
@[simp] theorem applyReset_kdec (s : State) : (applyReset s).kdec = Config.resetS32 s.tick 6 := rfl
@[simp] theorem applyReset_cut (s : State) : (applyReset s).cut = Config.resetCut s.tick := rfl
@[simp] theorem applyReset_p1 (s : State) : (applyReset s).p1 = Config.resetU64 s.tick 7 := rfl
@[simp] theorem applyReset_p2 (s : State) : (applyReset s).p2 = Config.resetU64 s.tick 8 := rfl
@[simp] theorem applyReset_delta (s : State) : (applyReset s).delta = Config.resetU64 s.tick 9 := rfl
@[simp] theorem applyReset_wfrac (s : State) : (applyReset s).wfrac = Config.resetU64 s.tick 10 := rfl
@[simp] theorem applyReset_wsc (s : State) : (applyReset s).wsc = Config.resetU64 s.tick 11 := rfl
@[simp] theorem applyReset_kappa (s : State) : (applyReset s).kappa = Config.resetS32 s.tick 12 := rfl
@[simp] theorem applyReset_kexp (s : State) : (applyReset s).kexp = 0 := rfl
@[simp] theorem applyReset_rem (s : State) : (applyReset s).rem = Config.resetU64 s.tick 13 := rfl
@[simp] theorem applyReset_unit (s : State) : (applyReset s).unit = Config.resetU64 s.tick 14 := rfl
@[simp] theorem applyReset_dig (s : State) : (applyReset s).dig = freshDig s.tick := rfl
@[simp] theorem applyReset_ndig (s : State) : (applyReset s).ndig = 0 := rfl
@[simp] theorem applyReset_out (s : State) : (applyReset s).out = freshOut s.tick := rfl
@[simp] theorem applyReset_outLen (s : State) : (applyReset s).outLen = 0 := rfl
@[simp] theorem applyReset_pending (s : State) : (applyReset s).pending = s.pending := rfl
@[simp] theorem applyReset_readData (s : State) : (applyReset s).readData = s.readData := rfl
@[simp] theorem applyReset_tick (s : State) : (applyReset s).tick = s.tick := rfl

end Sys2Proof.Machine
end

