-- ==== Sys2Proof/Laws/Ops.lean ====
section
/-! SUPPORT. What each shared operation can do, said once. -/

namespace Sys2Proof.Machine

/-! ### Arithmetic -/

/-- "It is an integer of at least 1" (00_scope.md R9). -/
theorem cycles_pos (op : BitVec 4) : 1 ≤ Config.cycles op := by
  simp [Config.cycles]

theorem bitlen_pos {m : Nat} (h : 0 < m) : 0 < bitlen m := by
  have : m ≠ 0 := by omega
  simp [bitlen, this]

/-- `bitlen m` is the number of bits of m: m lies below 2^bitlen, and not below half of it. -/
theorem lt_two_pow_bitlen (m : Nat) : m < 2 ^ bitlen m := by
  unfold bitlen
  split
  · simp_all
  · exact Nat.lt_log2_self

theorem two_pow_le_of_bitlen {m : Nat} (h : 0 < m) : 2 ^ (bitlen m - 1) ≤ m := by
  have h0 : m ≠ 0 := by omega
  simpa [bitlen, h0] using Nat.log2_self_le h0

theorem bitlen_le_of_lt {m n : Nat} (h : m < 2 ^ n) : bitlen m ≤ n := by
  by_cases h0 : m = 0
  · simp [bitlen, h0]
  · have := two_pow_le_of_bitlen (Nat.pos_of_ne_zero h0)
    have hlt : 2 ^ (bitlen m - 1) < 2 ^ n := by omega
    have := (Nat.pow_lt_pow_iff_right (by decide : 1 < 2)).mp hlt
    omega

theorem quot_of_pos (a : Nat) {b : Nat} (h : 0 < b) : quot a b = a / b := by
  have : b ≠ 0 := by omega
  simp [quot, this]

theorem tens_of_mem {i : Int} (h0 : 0 ≤ i) (h9 : i ≤ 9) : tens i = 10 ^ i.toNat := by
  simp [tens, h0, h9]

theorem norm_of_mem {m : Nat} (h0 : 0 < m) (h1 : m < 2 ^ 64) (e : Int) :
    norm m e = (m * 2 ^ (64 - bitlen m), e - (64 - bitlen m)) := by
  rw [norm, if_pos ⟨h0, h1⟩]

/-- A normalized mantissa has bit 63 set and fits 64 bits (42_boundary.md R81). -/
theorem norm_mantissa_range {m : Nat} (h0 : 0 < m) (h1 : m < 2 ^ 64) :
    2 ^ 63 ≤ m * 2 ^ (64 - bitlen m) ∧ m * 2 ^ (64 - bitlen m) < 2 ^ 64 := by
  have hb : bitlen m ≤ 64 := bitlen_le_of_lt h1
  have hp := bitlen_pos h0
  have hu := lt_two_pow_bitlen m
  have hl := two_pow_le_of_bitlen h0
  have e1 : 2 ^ (bitlen m - 1) * 2 ^ (64 - bitlen m) = 2 ^ 63 := by
    rw [← Nat.pow_add]; congr 1; omega
  have e2 : 2 ^ bitlen m * 2 ^ (64 - bitlen m) = 2 ^ 64 := by
    rw [← Nat.pow_add]; congr 1; omega
  have hpos : 0 < 2 ^ (64 - bitlen m) := Nat.pow_pos (by decide)
  exact ⟨e1 ▸ Nat.mul_le_mul_right _ hl, e2 ▸ Nat.mul_lt_mul_of_pos_right hu hpos⟩

theorem splitAtCut_of_nonneg {u ue : Int} (h : ue ≤ 0) :
    splitAtCut u ue = (u / 2 ^ (-ue).toNat, u % 2 ^ (-ue).toNat) := by
  rw [splitAtCut, if_pos (by omega)]

/-! ### Commands -/

theorem convertCommand_idle {s : State} (h : s.busy = false) : convertCommand s = acceptConvert s := by
  simp [convertCommand, h]

theorem convertCommand_busy {s : State} (h : s.busy = true) : convertCommand s = rejectCommand s := by
  simp [convertCommand, h]

/-- A write to CMD does one of four things (47_top_level.md R127). -/
theorem writeCommand_cases (v : U64) (s : State) :
    (v = 0 ∧ writeCommand v s = s) ∨
    (v = 1 ∧ s.busy = false ∧ writeCommand v s = acceptConvert s) ∨
    (v = 1 ∧ s.busy = true ∧ writeCommand v s = rejectCommand s) ∨
    (v ≠ 0 ∧ v ≠ 1 ∧ writeCommand v s = rejectCommand s) := by
  by_cases h0 : v = 0
  · exact .inl ⟨h0, by simp [writeCommand, h0]⟩
  by_cases h1 : v = 1
  · cases hb : s.busy
    · exact .inr (.inl ⟨h1, rfl, by simp [writeCommand, h1, convertCommand, hb]⟩)
    · exact .inr (.inr (.inl ⟨h1, rfl, by simp [writeCommand, h1, convertCommand, hb]⟩))
  · exact .inr (.inr (.inr ⟨h0, h1, by rw [writeCommand, if_neg h0, if_neg h1]⟩))

/-! ### The digit buffer -/

theorem digAt_of_lt (s : State) {i : Nat} (h : i < 18) : digAt s i = s.dig[i] := by
  simp [digAt, h]

@[simp] theorem digits_length (s : State) (n : Nat) : (digits s n).length = n := by
  simp [digits]

/-- Append does one of three things (45_digit_generator.md R107). -/
theorem appendDigit_cases (d : Nat) (s : State) :
    (d = 0 ∧ s.ndig = 0 ∧ appendDigit d s = some s) ∨
    ((d ≠ 0 ∨ s.ndig ≠ 0) ∧ s.ndig = 18 ∧ appendDigit d s = none) ∨
    ((d ≠ 0 ∨ s.ndig ≠ 0) ∧ s.ndig ≠ 18 ∧
      appendDigit d s = some { writeDig s.ndig.toNat (digitByte d) s with ndig := s.ndig + 1 }) := by
  by_cases hc : d ≠ 0 ∨ s.ndig ≠ 0
  · by_cases h18 : s.ndig = 18
    · exact .inr (.inl ⟨hc, h18, by rw [appendDigit, if_pos hc, if_pos h18]⟩)
    · exact .inr (.inr ⟨hc, h18, by rw [appendDigit, if_pos hc, if_neg h18]⟩)
  · have h : d = 0 ∧ s.ndig = 0 := by
      constructor
      · by_contra h; exact hc (.inl h)
      · by_contra h; exact hc (.inr h)
    exact .inl ⟨h.1, h.2, by rw [appendDigit, if_neg hc]⟩

/-- Where Append succeeds it writes DIG and NDIG only. -/
theorem appendDigit_frame {d : Nat} {s a : State} (h : appendDigit d s = some a) :
    a = { s with dig := a.dig, ndig := a.ndig } := by
  rcases appendDigit_cases d s with ⟨_, _, e⟩ | ⟨_, _, e⟩ | ⟨_, _, e⟩
  · rw [e] at h; cases h; rfl
  · rw [e] at h; cases h
  · rw [e] at h; cases h; rfl

/-! ### The output buffer -/

/-- Writing a text from position i sets exactly the positions i .. i + length - 1. -/
theorem getElem_writeBytes (t : List Byte) (i : Nat) (v : Vector Byte 25) (j : Nat) (hj : j < 25) :
    (writeBytes t i v)[j] = if h : i ≤ j ∧ j < i + t.length then t[j - i]'(by omega) else v[j] := by
  induction t generalizing i v with
  | nil =>
    have : ¬ (i ≤ j ∧ j < i + ([] : List Byte).length) := by simp only [List.length_nil]; omega
    rw [writeBytes, dif_neg this]
  | cons b bs ih =>
    rw [writeBytes, ih]
    by_cases h1 : i + 1 ≤ j ∧ j < i + 1 + bs.length
    · have h2 : i ≤ j ∧ j < i + (b :: bs).length := by simp only [List.length_cons]; omega
      rw [dif_pos h1, dif_pos h2]
      have e : j - i = (j - (i + 1)) + 1 := by omega
      simp only [e, List.getElem_cons_succ]
    · rw [dif_neg h1]
      by_cases h3 : i = j
      · subst h3
        simp
      · have h2 : ¬ (i ≤ j ∧ j < i + (b :: bs).length) := by simp only [List.length_cons]; omega
        rw [dif_neg h2]
        simp [h3]

/-! ### Rounding -/

/-- The three tests of the Rounding Correction (R110). -/
theorem roundsDown_iff (rem unit wsc delta : Int) :
    roundsDown rem unit wsc delta = true ↔
      rem < wsc ∧ unit ≤ delta - rem ∧ |rem + unit - wsc| < wsc - rem := by
  simp [roundsDown, and_assoc]

/-! ### Registers read by the host -/

theorem resultsUnspecified_false {s : State} : resultsUnspecified s = false ↔ s.busy = false ∧ s.fault = false := by
  simp [resultsUnspecified]

end Sys2Proof.Machine
end

