-- ==== Sys2Proof/Laws/PerInstr.lean ====
section
/-! SUPPORT. A law made per instruction: the encoding of every instruction matches its own row of spec/opcode_table.json. -/

namespace Sys2Proof

/-- The bits of an encoded form that the table's match and mask speak of: a HACC access code (without DATA), a command word, a STATE
code. -/
def Enc.bits : Enc → BitVec 64
  | .hacc code _ => code.setWidth 64
  | .cmd word => word
  | .uop code => code.setWidth 64

/-- The row of an instruction in spec/opcode_table.json: its format, match and mask. -/
def Instr.tableRow : Instr → Format × BitVec 64 × BitVec 64
  | .rdIn => (.hacc, 0x000, 0x1FF)
  | .wrIn _ => (.hacc, 0x100, 0x1FF)
  | .rdCmd => (.hacc, 0x008, 0x1FF)
  | .wrCmd _ => (.hacc, 0x108, 0x1FF)
  | .rdStatus => (.hacc, 0x010, 0x1FF)
  | .rdResult => (.hacc, 0x018, 0x1FF)
  | .rdOut0 => (.hacc, 0x020, 0x1FF)
  | .rdOut1 => (.hacc, 0x028, 0x1FF)
  | .rdOut2 => (.hacc, 0x030, 0x1FF)
  | .rdOut3 => (.hacc, 0x038, 0x1FF)
  | .rdDig0 => (.hacc, 0x040, 0x1FF)
  | .rdDig1 => (.hacc, 0x048, 0x1FF)
  | .rdDig2 => (.hacc, 0x050, 0x1FF)
  | .rdUnmapped58 => (.hacc, 0x058, 0x1FF)
  | .rdUnmapped60 _ => (.hacc, 0x060, 0x1E7)
  | .rdUnmapped80 _ => (.hacc, 0x080, 0x187)
  | .wrIgnored110 _ _ => (.hacc, 0x110, 0x1F7)
  | .wrIgnored120 _ _ => (.hacc, 0x120, 0x1E7)
  | .wrIgnored140 _ _ => (.hacc, 0x140, 0x1C7)
  | .wrIgnored180 _ _ => (.hacc, 0x180, 0x187)
  | .notAdmitted1 _ _ => (.hacc, 0x001, 0x001)
  | .notAdmitted2 _ _ => (.hacc, 0x002, 0x003)
  | .notAdmitted4 _ _ => (.hacc, 0x004, 0x007)
  | .nop => (.cmd, 0x0000000000000000, 0xFFFFFFFFFFFFFFFF)
  | .convert => (.cmd, 0x0000000000000001, 0xFFFFFFFFFFFFFFFF)
  | .reservedCmd _ => (.cmd, 0x0000000000000000, 0x0000000000000000)
  | .idle => (.uop, 0x0, 0xF)
  | .decompose => (.uop, 0x1, 0xF)
  | .special => (.uop, 0x2, 0xF)
  | .bounds => (.uop, 0x3, 0xF)
  | .normw => (.uop, 0x4, 0xF)
  | .pinit => (.uop, 0x5, 0xF)
  | .pwalk => (.uop, 0x6, 0xF)
  | .mulw => (.uop, 0x7, 0xF)
  | .mulu => (.uop, 0x8, 0xF)
  | .mull => (.uop, 0x9, 0xF)
  | .setup => (.uop, 0xA, 0xF)
  | .dgint => (.uop, 0xB, 0xF)
  | .dgfrac => (.uop, 0xC, 0xF)
  | .round => (.uop, 0xD, 0xF)
  | .emit => (.uop, 0xE, 0xF)
  | .reservedUop => (.uop, 0xF, 0xF)

namespace Laws

/-- The encoding is of the row's format, and its bits under the row's mask are the row's match. -/
def TableRow.Statement (i : Instr) : Prop :=
  (encode i).format = i.tableRow.1 ∧ (encode i).bits &&& i.tableRow.2.2 = i.tableRow.2.1

theorem TableRow.rdIn : TableRow.Statement (.rdIn) := ⟨rfl, rfl⟩

theorem TableRow.wrIn (data : U64) : TableRow.Statement (.wrIn data) :=
  have h : (haccCode 1#1 0#5).setWidth 64 &&& 0x1FF = (0x100 : BitVec 64) := by decide
  ⟨rfl, h⟩

theorem TableRow.rdCmd : TableRow.Statement (.rdCmd) := ⟨rfl, rfl⟩

theorem TableRow.wrCmd (data : U64) : TableRow.Statement (.wrCmd data) :=
  have h : (haccCode 1#1 1#5).setWidth 64 &&& 0x1FF = (0x108 : BitVec 64) := by decide
  ⟨rfl, h⟩

theorem TableRow.rdStatus : TableRow.Statement (.rdStatus) := ⟨rfl, rfl⟩

theorem TableRow.rdResult : TableRow.Statement (.rdResult) := ⟨rfl, rfl⟩

theorem TableRow.rdOut0 : TableRow.Statement (.rdOut0) := ⟨rfl, rfl⟩

theorem TableRow.rdOut1 : TableRow.Statement (.rdOut1) := ⟨rfl, rfl⟩

theorem TableRow.rdOut2 : TableRow.Statement (.rdOut2) := ⟨rfl, rfl⟩

theorem TableRow.rdOut3 : TableRow.Statement (.rdOut3) := ⟨rfl, rfl⟩

theorem TableRow.rdDig0 : TableRow.Statement (.rdDig0) := ⟨rfl, rfl⟩

theorem TableRow.rdDig1 : TableRow.Statement (.rdDig1) := ⟨rfl, rfl⟩

theorem TableRow.rdDig2 : TableRow.Statement (.rdDig2) := ⟨rfl, rfl⟩

theorem TableRow.rdUnmapped58 : TableRow.Statement (.rdUnmapped58) := ⟨rfl, rfl⟩

theorem TableRow.rdUnmapped60 (reg : BitVec 2) : TableRow.Statement (.rdUnmapped60 reg) :=
  have h : ∀ reg : BitVec 2, (haccCode 0#1 (0b011#3 ++ reg)).setWidth 64 &&& 0x1E7 = (0x060 : BitVec 64) := by decide
  ⟨rfl, h reg⟩

theorem TableRow.rdUnmapped80 (reg : BitVec 4) : TableRow.Statement (.rdUnmapped80 reg) :=
  have h : ∀ reg : BitVec 4, (haccCode 0#1 (1#1 ++ reg)).setWidth 64 &&& 0x187 = (0x080 : BitVec 64) := by decide
  ⟨rfl, h reg⟩

theorem TableRow.wrIgnored110 (reg : BitVec 1) (data : U64) : TableRow.Statement (.wrIgnored110 reg data) :=
  have h : ∀ reg : BitVec 1, (haccCode 1#1 (0b0001#4 ++ reg)).setWidth 64 &&& 0x1F7 = (0x110 : BitVec 64) := by decide
  ⟨rfl, h reg⟩

theorem TableRow.wrIgnored120 (reg : BitVec 2) (data : U64) : TableRow.Statement (.wrIgnored120 reg data) :=
  have h : ∀ reg : BitVec 2, (haccCode 1#1 (0b001#3 ++ reg)).setWidth 64 &&& 0x1E7 = (0x120 : BitVec 64) := by decide
  ⟨rfl, h reg⟩

theorem TableRow.wrIgnored140 (reg : BitVec 3) (data : U64) : TableRow.Statement (.wrIgnored140 reg data) :=
  have h : ∀ reg : BitVec 3, (haccCode 1#1 (0b01#2 ++ reg)).setWidth 64 &&& 0x1C7 = (0x140 : BitVec 64) := by decide
  ⟨rfl, h reg⟩

theorem TableRow.wrIgnored180 (reg : BitVec 4) (data : U64) : TableRow.Statement (.wrIgnored180 reg data) :=
  have h : ∀ reg : BitVec 4, (haccCode 1#1 (1#1 ++ reg)).setWidth 64 &&& 0x187 = (0x180 : BitVec 64) := by decide
  ⟨rfl, h reg⟩

theorem TableRow.notAdmitted1 (hi : BitVec 8) (data : U64) : TableRow.Statement (.notAdmitted1 hi data) :=
  have h : ∀ hi : BitVec 8, (hi ++ 1#1).setWidth 64 &&& 0x001 = (0x001 : BitVec 64) := by decide
  ⟨rfl, h hi⟩

theorem TableRow.notAdmitted2 (hi : BitVec 7) (data : U64) : TableRow.Statement (.notAdmitted2 hi data) :=
  have h : ∀ hi : BitVec 7, (hi ++ 0b10#2).setWidth 64 &&& 0x003 = (0x002 : BitVec 64) := by decide
  ⟨rfl, h hi⟩

theorem TableRow.notAdmitted4 (hi : BitVec 6) (data : U64) : TableRow.Statement (.notAdmitted4 hi data) :=
  have h : ∀ hi : BitVec 6, (hi ++ 0b100#3).setWidth 64 &&& 0x007 = (0x004 : BitVec 64) := by decide
  ⟨rfl, h hi⟩

theorem TableRow.nop : TableRow.Statement (.nop) := ⟨rfl, rfl⟩

theorem TableRow.convert : TableRow.Statement (.convert) := ⟨rfl, rfl⟩

theorem TableRow.reservedCmd (word : U64) : TableRow.Statement (.reservedCmd word) := ⟨rfl, by simp [Enc.bits, encode, Instr.tableRow]⟩

theorem TableRow.idle : TableRow.Statement (.idle) := ⟨rfl, rfl⟩

theorem TableRow.decompose : TableRow.Statement (.decompose) := ⟨rfl, rfl⟩

theorem TableRow.special : TableRow.Statement (.special) := ⟨rfl, rfl⟩

theorem TableRow.bounds : TableRow.Statement (.bounds) := ⟨rfl, rfl⟩

theorem TableRow.normw : TableRow.Statement (.normw) := ⟨rfl, rfl⟩

theorem TableRow.pinit : TableRow.Statement (.pinit) := ⟨rfl, rfl⟩

theorem TableRow.pwalk : TableRow.Statement (.pwalk) := ⟨rfl, rfl⟩

theorem TableRow.mulw : TableRow.Statement (.mulw) := ⟨rfl, rfl⟩

theorem TableRow.mulu : TableRow.Statement (.mulu) := ⟨rfl, rfl⟩

theorem TableRow.mull : TableRow.Statement (.mull) := ⟨rfl, rfl⟩

theorem TableRow.setup : TableRow.Statement (.setup) := ⟨rfl, rfl⟩

theorem TableRow.dgint : TableRow.Statement (.dgint) := ⟨rfl, rfl⟩

theorem TableRow.dgfrac : TableRow.Statement (.dgfrac) := ⟨rfl, rfl⟩

theorem TableRow.round : TableRow.Statement (.round) := ⟨rfl, rfl⟩

theorem TableRow.emit : TableRow.Statement (.emit) := ⟨rfl, rfl⟩

theorem TableRow.reservedUop : TableRow.Statement (.reservedUop) := ⟨rfl, rfl⟩

end Laws

end Sys2Proof
end

