-- ==== Sys2Proof/Laws/Step.lean ====
section
/-! SUPPORT. What a step does, by the event it takes. -/

namespace Sys2Proof.Machine

/-! ### The next event -/

theorem nextEvent_of_nil {s : State} (h : s.pending = []) : nextEvent s = .turn := by
  simp [nextEvent, h]

theorem nextEvent_of_cons {s : State} {e : Event} {rest : List Event} (h : s.pending = e :: rest) (he : e.sticksHost = false) :
    nextEvent s = e := by
  simp [nextEvent, h, he]

theorem remaining_of_cons {e : Event} (rest : List Event) (he : e.sticksHost = false) : remaining (e :: rest) = rest := by
  simp [remaining, he]

/-- While the host is stuck and no reset or turn is pending, a running sequencer has the turn (70_reset_and_hazards.md R171). -/
theorem nextEvent_of_stuck {s : State} {e : Event} {rest : List Event} (h : s.pending = e :: rest) (he : e.sticksHost = true)
    (hr : ∀ e' ∈ rest, e'.isHost = true) (hc : s.stateCode ≠ Uop.idle) : nextEvent s = .turn := by
  have hf : rest.find? (!·.isHost) = none := by simpa using hr
  simp only [nextEvent, h, he, hf, if_neg hc, if_true]

/-- Then the access stays pending, and so does what the host would have done after it. -/
theorem remaining_of_stuck {e : Event} {rest : List Event} (he : e.sticksHost = true) (hr : ∀ e' ∈ rest, e'.isHost = true) :
    remaining (e :: rest) = e :: rest := by
  have hf : rest.eraseP (!·.isHost) = rest := List.eraseP_of_forall_not (by simpa using hr)
  simp [remaining, he, hf]

/-! ### The step -/

theorem step_of_form {s : State} {e : Enc} (h : fetch s = .form e) : step s = exec (decode e) (advance s) := by
  simp [step, h]

theorem step_of_reset {s : State} (h : fetch s = .reset) : step s = .next (applyReset (advance s)) := by
  simp [step, h]

theorem step_of_notAdmitted {s : State} (h : fetch s = .notAdmitted) : step s = .fault .hostStuck := by
  simp [step, h]

/-- A step that answers a next state ran a decoded form or was a reset. -/
theorem step_cases {s t : State} (h : step s = .next t) :
    (∃ e, fetch s = .form e ∧ exec (decode e) (advance s) = .next t) ∨
    (fetch s = .reset ∧ t = applyReset (advance s)) := by
  cases hf : fetch s with
  | form e => exact .inl ⟨e, rfl, by rwa [step_of_form hf] at h⟩
  | reset =>
    rw [step_of_reset hf] at h
    cases h
    exact .inr ⟨rfl, rfl⟩
  | notAdmitted =>
    rw [step_of_notAdmitted hf] at h
    cases h

end Sys2Proof.Machine
end

