-- ==== Sys2Proof/Tests/Slice0.lean ====
section
/-! SUPPORT. Tests: ill-formed terms, words written out from the encodings, one step of each instruction with results taken from
spec/95_test_vectors.md and the rules' worked examples, and a witness for every statement that has hypotheses. -/

namespace Sys2Proof.Tests

open Sys2Proof.Machine

/-- A test on the next state; a fault or a refusal fails it. -/
def onNext (r : Result) (p : State → Bool) : Bool :=
  match r with
  | .next t => p t
  | .fault _ => false
  | .refused _ => false

/-! ### WellFormed -/

theorem test_illFormed_reservedCmd_nop : (Instr.reservedCmd 0).wellFormed = false := by decide
theorem test_illFormed_reservedCmd_convert : (Instr.reservedCmd 1).wellFormed = false := by decide
theorem test_wellFormed_reservedCmd : (Instr.reservedCmd 0x11).wellFormed = true := by decide

/-! ### Decoding of words written out from 30_encoding.md R64, R67, R70 (W, REG, ALN) -/

theorem test_decode_rdIn : decode (.hacc (0b0#1 ++ 0b00000#5 ++ 0b000#3) 0) = .rdIn := by decide
theorem test_decode_wrIn : decode (.hacc (0b1#1 ++ 0b00000#5 ++ 0b000#3) 5) = .wrIn 5 := by decide
theorem test_decode_rdCmd : decode (.hacc (0b0#1 ++ 0b00001#5 ++ 0b000#3) 0) = .rdCmd := by decide
theorem test_decode_wrCmd : decode (.hacc (0b1#1 ++ 0b00001#5 ++ 0b000#3) 1) = .wrCmd 1 := by decide
theorem test_decode_rdStatus : decode (.hacc 0x010#9 0) = .rdStatus := by decide
theorem test_decode_rdResult : decode (.hacc 0x018#9 0) = .rdResult := by decide
theorem test_decode_rdOuts : [0x020#9, 0x028#9, 0x030#9, 0x038#9].map (fun c => decode (.hacc c 0)) =
    [.rdOut0, .rdOut1, .rdOut2, .rdOut3] := by decide
theorem test_decode_rdDigs : [0x040#9, 0x048#9, 0x050#9].map (fun c => decode (.hacc c 0)) =
    [.rdDig0, .rdDig1, .rdDig2] := by decide
theorem test_decode_rdUnmapped : [0x058#9, 0x060#9, 0x078#9, 0x080#9, 0x0F8#9].map (fun c => decode (.hacc c 0)) =
    [.rdUnmapped58, .rdUnmapped60 0, .rdUnmapped60 3, .rdUnmapped80 0, .rdUnmapped80 15] := by decide
theorem test_decode_wrIgnored : [0x110#9, 0x118#9, 0x138#9, 0x178#9, 0x1F8#9].map (fun c => decode (.hacc c 9)) =
    [.wrIgnored110 0 9, .wrIgnored110 1 9, .wrIgnored120 3 9, .wrIgnored140 7 9, .wrIgnored180 15 9] := by decide
theorem test_decode_notAdmitted : [0x011#9, 0x012#9, 0x01C#9].map (fun c => decode (.hacc c 0)) =
    [.notAdmitted1 0x08 0, .notAdmitted2 0x04 0, .notAdmitted4 0x03 0] := by decide
theorem test_decode_cmd : [0x0, 0x1, 0x2, 0x8000000000000001].map (fun w => decode (.cmd w)) =
    [.nop, .convert, .reservedCmd 0x2, .reservedCmd 0x8000000000000001] := by decide
theorem test_decode_uop : [0x0#4, 0x1, 0x2, 0x3, 0x4, 0x5, 0x6, 0x7, 0x8, 0x9, 0xA, 0xB, 0xC, 0xD, 0xE, 0xF].map (fun c => decode (.uop c)) =
    [.idle, .decompose, .special, .bounds, .normw, .pinit, .pwalk, .mulw, .mulu, .mull, .setup, .dgint, .dgfrac, .round, .emit,
      .reservedUop] := by decide
theorem test_decodeBytes_wrIn : decodeBytes .hacc [0x00, 0x01, 0x78, 0x56, 0x34, 0x12, 0, 0, 0, 0] = .ok (.wrIn 0x12345678) := by
  rfl
theorem test_decodeBytes_codeTooWide : decodeBytes .hacc [0, 2, 0, 0, 0, 0, 0, 0, 0, 0] = .error (.bitsAboveWidth .hacc) := by rfl
theorem test_decodeBytes_uopTooWide : decodeBytes .uop [0x10] = .error (.bitsAboveWidth .uop) := by rfl
theorem test_decodeBytes_short : decodeBytes .cmd [1, 0] = .error (.wrongLength .cmd 2) := by rfl
theorem test_tableWord : [decodeTableWord 8 0xB, decodeTableWord 16 0x108, decodeTableWord 64 1, decodeTableWord 16 0x200] =
    [some .dgint, some (.wrCmd 0), some .convert, none] := by decide

/-! ### Host accesses (95_test_vectors.md section 9) -/

/-- IDLE after a conversion of -1.5 (P4 b): STATUS 0x402, RESULT 0xFFFFFFFF00000204, OUT "-1.5", DIG "15", here with 0 in the
other bytes. -/
def doneState : State :=
  { State.reset with
    inReg := 0xBFF8000000000000, done := true, neg := true, kexp := -1, ndig := 2, outLen := 4
    dig := ((Vector.replicate 18 0).set 0 0x31).set 1 0x35
    out := ((((Vector.replicate 25 0).set 0 0x2D).set 1 0x31).set 2 0x2E).set 3 0x35 }

theorem test_rdIn : onNext (exec .rdIn doneState) (·.readData = 0xBFF8000000000000) := by decide
theorem test_rdCmd : onNext (exec .rdCmd { doneState with readData := 9 }) (·.readData = 0) := by decide
theorem test_rdStatus_done : onNext (exec .rdStatus doneState) (·.readData = 0x402) := by decide
theorem test_rdStatus_fault :
    onNext (exec .rdStatus (raiseFault .outputOverflow { State.reset with neg := true })) (·.readData = 0x444) := by decide
theorem test_rdResult : onNext (exec .rdResult doneState) (·.readData = 0xFFFFFFFF00000204) := by decide
theorem test_rdOut0 : onNext (exec .rdOut0 doneState) (·.readData = 0x352E312D) := by decide
theorem test_rdOut1 : onNext (exec .rdOut1 { doneState with out := doneState.out.set 8 0x37 }) (·.readData = 0x37) := by decide
theorem test_rdOut2 : onNext (exec .rdOut2 { doneState with out := doneState.out.set 17 0x36 }) (·.readData = 0x3600) := by decide
theorem test_rdOut3 : onNext (exec .rdOut3 { doneState with out := doneState.out.set 24 0x30 }) (·.readData = 0x30) := by decide
theorem test_rdDig0 : onNext (exec .rdDig0 doneState) (·.readData = 0x3531) := by decide
theorem test_rdDig1 : onNext (exec .rdDig1 { doneState with dig := doneState.dig.set 15 0x36 }) (·.readData = 0x3600000000000000) := by
  decide
theorem test_rdDig2 : onNext (exec .rdDig2 { doneState with dig := doneState.dig.set 16 0x33 }) (·.readData = 0x33) := by decide
theorem test_rdUnmapped : onNext (exec .rdUnmapped58 { doneState with readData := 9 }) (·.readData = 0) := by decide
theorem test_wrIn_while_busy : onNext (exec (.wrIn 7) (acceptConvert doneState))
    (fun t => t.inReg = 7 && t.x = 0xBFF8000000000000 && t.busy) := by decide
theorem test_wrIgnored_status : onNext (exec (.wrIgnored110 0 0xFFFFFFFFFFFFFFFF) doneState) (· = doneState) := by decide
theorem test_step_narrow_access : (match step { State.reset with pending := [.access 32 0x010 0] } with
    | .fault .hostStuck => true | _ => false) = true := by decide
/-- A stuck host does not stop a running sequencer (R171). -/
theorem test_step_stuck_host_sequencer_goes_on :
    onNext (step { acceptConvert State.reset with pending := [.access 64 0x011 0, .access 64 0x100 7] })
      (fun t => t.stateCode = 2 && t.inReg = 0 && t.pending.length = 2) := by decide
theorem test_step_stuck_host_reset :
    onNext (step { acceptConvert State.reset with pending := [.access 64 0x011 0, .reset] })
      (fun t => !t.busy && t.pending = [.access 64 0x011 0]) := by decide

/-! ### Commands (section 8) -/

theorem test_convert_accepted : onNext (exec .convert { State.reset with inReg := 0x40D0000000000000 })
    (fun t => statusWord t = 0x10001 && t.x = 0x40D0000000000000) := by decide
theorem test_convert_busy : onNext (exec .convert (acceptConvert State.reset))
    (fun t => statusWord t = 0x10009) := by decide
theorem test_convert_after_fault : onNext (exec .convert (raiseFault .noDigits State.reset)) (fun t => statusWord t = 0x10001) := by
  decide
theorem test_reserved_word : onNext (exec (.wrCmd 0x8000000000000001) State.reset) (fun t => statusWord t = 0x8) := by decide
theorem test_nop_keeps_cmdErr : onNext (exec (.wrCmd 0) { State.reset with cmdErr := true }) (fun t => statusWord t = 0x8) := by decide

/-! ### Decomposer (section 2) -/

theorem test_decompose_16384 : onNext (exec .decompose { State.reset with x := 0x40D0000000000000 })
    (fun t => t.f = ⟨0x0010000000000000, -38⟩ && t.cls = .finite && t.stateCode = 3) := by decide
theorem test_decompose_nan : onNext (exec .decompose { State.reset with x := 0xFFF8000000000001 })
    (fun t => t.f = ⟨0x0008000000000001, 972⟩ && t.cls = .nan && t.neg && t.stateCode = 2) := by decide

/-! ### Boundary Calculator (section 3) -/

theorem test_bounds_16384 : onNext (exec .bounds { State.reset with f := ⟨0x0010000000000000, -38⟩ })
    (fun t => t.u = ⟨0x8000000000000400, -49⟩ && t.l = ⟨0x7FFFFFFFFFFFFE00, -49⟩) := by decide
theorem test_bounds_smallest : onNext (exec .bounds { State.reset with f := ⟨1, -1074⟩ })
    (fun t => t.u = ⟨0xC000000000000000, -1137⟩ && t.l = ⟨0x4000000000000000, -1137⟩) := by decide
theorem test_normw_subnormal : onNext (exec .normw { State.reset with f := ⟨0x000FFFFFFFFFFFFF, -1074⟩ })
    (fun t => t.w = ⟨0xFFFFFFFFFFFFF000, -1086⟩) := by decide

/-! ### Cached power (section 4) -/

theorem test_pinit_16384 : onNext (exec .pinit { State.reset with u := ⟨0, -49⟩ }) (fun t => t.idx = 42) := by decide
theorem test_pinit_largest : onNext (exec .pinit { State.reset with u := ⟨0, 960⟩ }) (fun t => t.idx = 4) := by decide
theorem test_pwalk_up : onNext (exec .pwalk { State.reset with u := ⟨0, -49⟩, idx := 43 })
    (fun t => t.idx = 44 && t.stateCode = 6) := by decide
theorem test_pwalk_tableRange : onNext (exec .pwalk { acceptConvert State.reset with idx := 87 })
    (fun t => statusWord t = 0x14) := by decide
theorem test_pwalk_window : onNext (exec .pwalk { State.reset with u := ⟨0, -49⟩, idx := 44 })
    (fun t => t.cp = ⟨0x9C40000000000000, -50⟩ && t.kdec = 4 && t.stateCode = 7) := by decide

/-! ### Multiplier (section 5) -/

theorem test_mulw_16384 : onNext (exec .mulw { State.reset with w := ⟨0x8000000000000000, -49⟩, cp := ⟨0x9C40000000000000, -50⟩ })
    (fun t => t.w = ⟨0x4E20000000000000, -35⟩) := by decide
theorem test_mulu_16384 : onNext (exec .mulu { State.reset with u := ⟨0x8000000000000400, -49⟩, cp := ⟨0x9C40000000000000, -50⟩ })
    (fun t => t.u = ⟨0x4E20000000000271, -35⟩) := by decide
theorem test_mull_16384 : onNext (exec .mull { State.reset with l := ⟨0x7FFFFFFFFFFFFE00, -49⟩, cp := ⟨0x9C40000000000000, -50⟩ })
    (fun t => t.l = ⟨0x4E1FFFFFFFFFFEC8, -35⟩) := by decide
theorem test_mul_tie_up : mulMant 0x8000000000000001 0x8000000000000000 = 0x4000000000000001 := by decide
theorem test_mulSplit_largest : mulMantSplit 0xFFFFFFFFFFFFFFFF 0xFFFFFFFFFFFFFFFF = 0xFFFFFFFFFFFFFFFE := by decide

/-! ### Digit Generator and Rounding Correction (section 6) -/

theorem test_setup_16384 : onNext (exec .setup { State.reset with
      u := ⟨0x4E20000000000271, -35⟩, l := ⟨0x4E1FFFFFFFFFFEC8, -35⟩, w := ⟨0x4E20000000000000, -35⟩, kdec := 4 })
    (fun t => t.u.m = 0x4E20000000000270 && t.l.m = 0x4E1FFFFFFFFFFEC9 && t.kexp = -4 && t.wfrac = 624 && t.wsc = 624 &&
      t.delta = 935 && t.cut = 35 && t.p1 = 163840000 && t.p2 = 624 && t.kappa = 10) := by decide
/-- Section 6.1, step 6. -/
theorem test_dgint_stop : onNext (exec .dgint { State.reset with
      p1 := 40000, p2 := 624, cut := 35, delta := 935, kappa := 5, kexp := -4, wfrac := 624, ndig := 4 })
    (fun t => t.dig[4] = 0x34 && t.ndig = 5 && t.p1 = 0 && t.kappa = 4 && t.kexp = 0 && t.rem = 624 && t.unit = 343597383680000 &&
      t.stateCode = 0xD) := by decide
/-- Section 6.1, step 1: a leading zero position. -/
theorem test_dgint_leadingZero : onNext (exec .dgint { State.reset with p1 := 163840000, p2 := 624, cut := 35, delta := 935 })
    (fun t => t.ndig = 0 && t.kappa = 9 && t.p1 = 163840000 && t.stateCode = 0xB) := by decide
/-- Section 6.2: the fractional step of 3.14159. -/
theorem test_dgfrac_stop : onNext (exec .dgfrac { State.reset with
      p2 := 253327479039884, cut := 48, delta := 1248, wsc := 624, kappa := 0, kexp := -4, ndig := 5 })
    (fun t => t.dig[5] = 0x39 && t.kexp = -5 && t.rem = 2936 && t.unit = 281474976710656 && t.delta = 12480 && t.wsc = 6240 &&
      t.stateCode = 0xD) := by decide
theorem test_dgfrac_overflow : onNext (exec .dgfrac { acceptConvert State.reset with p2 := 5, cut := 3, ndig := 18 })
    (fun t => statusWord t = 0x24) := by decide
/-- Section 6.3: the second decrement of 5e-324. -/
theorem test_round_decrement : onNext (exec .round { State.reset with
      dig := State.reset.dig.set 0 0x36, ndig := 1, rem := 1626754589026571454, unit := 1152921504606846976
      wsc := 2848094538889217769, delta := 5696189077778435539 })
    (fun t => t.dig[0] = 0x35 && t.rem = 2779676093633418430 && t.stateCode = 0xD) := by decide
theorem test_round_underflow : onNext (exec .round { acceptConvert State.reset with
      dig := State.reset.dig.set 0 0x30, ndig := 1, rem := 0, unit := 1, wsc := 2, delta := 4 })
    (fun t => statusWord t = 0x34) := by decide

/-! ### Emitter (section 7) -/

/-- Text of given digits, K and sign. -/
def layoutOf (d : List Nat) (k : Int) (neg : Bool) : List Nat :=
  (finiteText (d.map (BitVec.ofNat 8 ·)) d.length k neg).map (·.toNat)

theorem test_emit_16384 : onNext (exec .emit { acceptConvert State.reset with
      dig := ((((State.reset.dig.set 0 0x31).set 1 0x36).set 2 0x33).set 3 0x38).set 4 0x34, ndig := 5, kexp := 0 })
    (fun t => textOf t = [0x31, 0x36, 0x33, 0x38, 0x34] && t.outLen = 5 && statusWord t = 0x2) := by decide
theorem test_emit_overflow : onNext (exec .emit { acceptConvert State.reset with
      neg := true, dig := Vector.replicate 18 0x31, ndig := 18, kexp := 7 })
    (fun t => statusWord t = 0x444 && t.outLen = 0) := by decide
/-- `10000000` and `1e+8`. -/
theorem test_layout_plain_limit : layoutOf [49] 7 false = [49, 48, 48, 48, 48, 48, 48, 48] ∧ layoutOf [49] 8 false = [49, 101, 43, 56] := by
  decide
/-- `-0.05`, `0.00123456` and `1.2345e-4`. -/
theorem test_layout_fixed : layoutOf [53] (-2) true = [45, 48, 46, 48, 53] ∧
    layoutOf [49, 50, 51, 52, 53, 54] (-8) false = [48, 46, 48, 48, 49, 50, 51, 52, 53, 54] ∧
    layoutOf [49, 50, 51, 52, 53] (-8) false = [49, 46, 50, 51, 52, 53, 101, 45, 52] := by decide
/-- `1e+105` and `-1e-323`. -/
theorem test_layout_exponent : layoutOf [49] 105 false = [49, 101, 43, 49, 48, 53] ∧
    layoutOf [49] (-323) true = [45, 49, 101, 45, 51, 50, 51] := by decide

/-! ### Top level -/

theorem test_special_negInf : onNext (exec .special { acceptConvert State.reset with cls := .infinite, neg := true })
    (fun t => textOf t = [0x2D, 0x49, 0x6E, 0x66] && statusWord t = 0x602) := by decide
theorem test_special_nan_no_sign : onNext (exec .special { acceptConvert State.reset with cls := .nan, neg := true })
    (fun t => textOf t = [0x4E, 0x61, 0x4E] && statusWord t = 0x702) := by decide
theorem test_idle : onNext (exec .idle doneState) (· = doneState) := by decide

/-! ### Witnesses: for every statement with hypotheses, a state and operands that meet them -/

/-- A conversion just accepted of 16384.0, and one of -Inf. -/
def accepted (x : U64) : State := acceptConvert { State.reset with inReg := x }

theorem accepted_Accepted (x : U64) : (accepted x).Accepted := ⟨rfl, rfl, rfl, rfl, rfl, rfl⟩

theorem reset_sound : State.reset.Sound := by constructor <;> decide
theorem doneState_sound : doneState.Sound := by constructor <;> decide

theorem witness_EncodeThenDecode : ∃ i : Instr, i.wellFormed = true := ⟨.reservedCmd 2, by decide⟩
theorem witness_StepRunsDecodedForm : ∃ (s1 s2 s3 s4 : State) (rest : List Event),
    s1.pending = .access 64 0x010 0 :: rest ∧ s2.pending = .command 1 :: rest ∧ s3.pending = .turn :: rest ∧ s4.pending = [] ∧
    (0x010#9).extractLsb' 0 3 = 0 :=
  ⟨{ State.reset with pending := [.access 64 0x010 0] }, { State.reset with pending := [.command 1] },
    { State.reset with pending := [.turn] }, State.reset, [], rfl, rfl, rfl, rfl, by decide⟩
/-- Behind an access that is not admitted: a pending turn, a running sequencer, and one in IDLE. -/
theorem witness_StepRunsDecodedForm_stuck : ∃ (s1 s2 s3 : State),
    s1.pending = .access 32 0x010 0 :: ([.command 1] ++ .turn :: []) ∧ (Event.command 1).isHost = true ∧
    s2.pending = [.access 64 0x011 0, .command 1] ∧ s2.stateCode ≠ 0 ∧ (0x011#9).extractLsb' 0 3 ≠ 0 ∧
    s3.pending = [.access 64 0x011 0] ∧ s3.stateCode = 0 :=
  ⟨{ State.reset with pending := [.access 32 0x010 0, .command 1, .turn] },
    { State.reset with stateCode := 1, pending := [.access 64 0x011 0, .command 1] },
    { State.reset with pending := [.access 64 0x011 0] }, rfl, rfl, rfl, by decide, by decide, rfl, rfl⟩
theorem witness_PlacedWordRunsNext : decodeTableWord 8 0x6 = some .pwalk ∧ decodeTableWord 16 0x100 = some (.wrIn 0) ∧
    decodeTableWord 64 0x1 = some .convert ∧ decodeTableWord 16 0x11 = some (.notAdmitted1 0x08 0) := by decide
theorem witness_OnlyAlignedAccessesAreAdmitted : (0x011#9).extractLsb' 0 3 ≠ 0 ∧ (0x0F8#9).extractLsb' 0 3 = 0 ∧
    ({ State.reset with pending := [.access 32 0x010 0] } : State).pending = [.access 32 0x010 0] ∧ 32 ≠ 64 ∧
    State.reset.stateCode = 0 ∧
    onNext (step { acceptConvert State.reset with pending := [.access 32 0x010 0] }) (fun _ => true) := by decide
theorem witness_ReservedStateCodeHasNoStep : onNext (exec .nop State.reset) (fun _ => true) ∧ State.reset.stateCode ≠ 0xF := by decide
theorem witness_ResetEventSetsResetValues : ({ accepted 1 with pending := [.reset] } : State).pending = [.reset] := rfl
theorem witness_StepKeepsSound : ∃ s t : State, s.Sound ∧ step s = .next t := ⟨State.reset, _, reset_sound, rfl⟩
theorem witness_ReadsOfInAndCmd : (∃ t : State, exec (.wrIn 5) State.reset = .next t) ∧
    ∃ t : State, exec .mulw State.reset = .next t ∧ ∀ v, Instr.mulw ≠ .wrIn v := ⟨⟨_, rfl⟩, _, rfl, fun _ h => by cases h⟩
theorem witness_ReadResultReturnsFields : doneState.busy = false ∧ doneState.fault = false := by decide
theorem witness_ReadOutAndDigReturnBytes : doneState.busy = false ∧ doneState.fault = false ∧
    8 * 3 + 0 < 25 ∧ 25 ≤ 8 * 3 + 1 ∧ 8 * 2 + 1 < 18 ∧ 18 ≤ 8 * 2 + 2 := by decide
theorem witness_UnmappedAndReadOnlyOffsets : 11 ≤ (11#5).toNat ∧ 11 ≤ (31#5).toNat ∧ 2 ≤ (2#5).toNat ∧ 2 ≤ (31#5).toNat := by decide
theorem witness_HostLeavesConversionAlone : ∃ t t', exec (decode (.hacc 0x108 1)) State.reset = .next t ∧
    exec (decode (.hacc 0x010 0)) State.reset = .next t' ∧ (Enc.hacc 0x108 1).format ≠ .uop ∧ (0x010#9).getLsbD 8 = false :=
  ⟨_, _, rfl, rfl, by decide, by decide⟩
theorem witness_CommandWriteDecodesAtOnce : State.reset.busy = false ∧ (accepted 1).busy = true ∧ (2 : U64) ≠ 0 ∧ (2 : U64) ≠ 1 := by
  decide
theorem witness_ConvertIsAcceptedWhenIdle : doneState.busy = false := rfl
theorem witness_ConvertIsRejectedWhenBusy : (accepted 1).busy = true ∧
    onNext (exec .decompose { accepted 1 with cmdErr := true }) (·.cmdErr) ∧
    onNext (exec .convert { doneState with cmdErr := true }) (fun t => !t.cmdErr) := by decide
theorem witness_ReservedWordSetsCmdErr : (0xFFFFFFFFFFFFFFFF : U64) ≠ 0 ∧ (0xFFFFFFFFFFFFFFFF : U64) ≠ 1 := by decide
theorem witness_OnlyConvertLeavesIdle : ∃ s t : State, s.stateCode = 0 ∧ step s = .next t ∧ t.stateCode ≠ 0 :=
  ⟨{ State.reset with pending := [.command 1] }, _, rfl, rfl, by decide⟩
theorem witness_NextMicroOperation : ∃ s t : State, s.fault = false ∧ exec (decode (.uop s.stateCode)) s = .next t ∧ t.fault = false :=
  ⟨{ State.reset with stateCode := 7 }, _, rfl, rfl, rfl⟩
theorem witness_NextMicroOperation_fault :
    onNext (exec (decode (.uop 0xD)) { State.reset with stateCode := 0xD }) (fun t => t.fault) := by decide
theorem witness_SequencerIgnoresHostTraffic : ∃ t, exec (decode (.uop 3)) State.reset = .next t := ⟨_, rfl⟩
theorem witness_FaultEntryWritesNothingElse :
    State.reset.fault = false ∧ onNext (exec .pwalk { State.reset with idx := 87 }) (fun t => t.fault && t.cause = 1) ∧
    onNext (exec .emit State.reset) (fun t => t.fault && t.cause = 5) := by decide
theorem witness_ResultsStayAfterDone : ∃ t, doneState.Sound ∧ doneState.done = true ∧ nextEvent doneState ≠ .reset ∧
    step doneState = .next t := ⟨_, doneState_sound, rfl, by decide, rfl⟩
theorem witness_DecomposeByClass : bexpOf 0 = 0 ∧ fracOf 0 = 0 ∧ bexpOf 1 = 0 ∧ fracOf 1 ≠ 0 ∧ bexpOf 0x0010000000000000 = 1 ∧
    bexpOf 0x7FEFFFFFFFFFFFFF = 0x7FE ∧ bexpOf 0x7FF0000000000000 = 0x7FF ∧ fracOf 0x7FF0000000000000 = 0 ∧
    bexpOf 0x7FF0000000000001 = 0x7FF ∧ fracOf 0x7FF0000000000001 ≠ 0 := by decide
theorem witness_BoundsComputesMidpoints : ∀ d ∈ [(⟨1, -1074⟩ : Dec), ⟨0x0010000000000000, -38⟩, ⟨0x001FFFFFFFFFFFFF, 971⟩],
    1 ≤ d.m.toNat ∧ d.m.toNat < 2 ^ 53 ∧ -1074 ≤ d.e.toInt ∧ d.e.toInt ≤ 971 := by decide
theorem witness_NormwNormalizes : ({ State.reset with f := ⟨0xFFFFFFFFFFFFFFFF, 0⟩ } : State).f.m ≠ 0 := by decide
theorem witness_BoundaryRanges : (accepted 0x0010000000000000).stateCode = 0x1 ∧
    classify (bexpOf (accepted 0x0010000000000000).x) (fracOf (accepted 0x0010000000000000).x) = .finite := by decide
theorem witness_PinitComputesInitialIndex : (-1137 : S32).toInt = -1137 ∧ (-87 : S32).toInt = -87 ∧ (960 : S32).toInt = 960 := by decide
theorem witness_PwalkWalksToWindow : (87 : S8).toInt = 87 ∧ (-1 : S8).toInt < 0 ∧ (0 : S8).toInt = 0 ∧ (86 : S8).toInt = 86 ∧
    (-49 : Int) + (powEntry 43).2 + 64 < -60 ∧ -32 < (-49 : Int) + (powEntry 45).2 + 64 ∧
    -60 ≤ (-1137 : Int) + (powEntry 84).2 + 64 ∧ (-1137 : Int) + (powEntry 84).2 + 64 ≤ -32 := by decide
theorem witness_LookupFindsPowIndex : ∃ s : State, s.stateCode = 0x5 ∧ -1137 ≤ s.u.e.toInt ∧ s.u.e.toInt ≤ 960 :=
  ⟨{ State.reset with stateCode := 5, u := ⟨0, -1137⟩ }, rfl, by decide, by decide⟩
theorem witness_MultiplyRoundsToNearest : ∃ a b : Dec, 2 ^ 63 ≤ a.m.toNat ∧ 2 ^ 63 ≤ b.m.toNat :=
  ⟨⟨0x8000000000000000, 0⟩, ⟨0xFFFFFFFFFFFFFFFF, 0⟩, by decide, by decide⟩
theorem witness_SplitMultiplyAgrees : 2 ^ 64 - 1 < 2 ^ 64 ∧ 0 < 2 ^ 64 := by decide
theorem witness_ScalingKeepsGaps : ∃ l w u c : Nat, u < 2 ^ 64 ∧ 2 ^ 63 ≤ c ∧ c < 2 ^ 64 ∧ l + 2 ^ 9 ≤ w ∧ w + 2 ^ 10 ≤ u :=
  ⟨0x7FFFFFFFFFFFFE00, 0x8000000000000000, 0x8000000000000400, 0x9C40000000000000, by decide, by decide, by decide, by decide, by decide⟩
theorem witness_SetupPreparesDigits : ∀ d ∈ [(⟨1, 0⟩ : Dec), ⟨0xFFFFFFFFFFFFFFFF, -63⟩],
    1 ≤ d.m.toNat ∧ -63 ≤ d.e.toInt ∧ d.e.toInt ≤ 0 := by decide

/-- A digit-generator state with given KAPPA and NDIG. -/
def digitState (kappa : S32) (ndig : BitVec 5) : State :=
  { State.reset with p1 := 1000000000, p2 := 5, cut := 35, delta := 935, kappa := kappa, ndig := ndig }

theorem witness_DgintGeneratesIntegerDigit : (digitState 1 0).kappa.toInt = 1 ∧ (digitState 10 18).kappa.toInt = 10 ∧
    (digitState 1 0).ndig.toNat ≤ 18 ∧ (digitState 10 18).ndig.toNat = 18 := by decide
theorem witness_DgintGeneratesIntegerDigit_cases :
    onNext (exec .dgint (digitState 10 18)) (fun t => t.cause = 2) ∧
    onNext (exec .dgint (digitState 10 0)) (fun t => t.ndig = 1 && t.stateCode = 0xD) ∧
    onNext (exec .dgint { digitState 10 0 with delta := 1 }) (fun t => t.stateCode = 0xB) ∧
    onNext (exec .dgint { digitState 1 0 with delta := 1 }) (fun t => t.stateCode = 0xC) := by decide
theorem witness_DgfracGeneratesFractionDigit_cases :
    (digitState 0 17).ndig.toNat ≤ 18 ∧
    onNext (exec .dgfrac (digitState 0 18)) (fun t => t.cause = 2) ∧
    onNext (exec .dgfrac (digitState 0 17)) (fun t => t.ndig = 18 && t.stateCode = 0xD) ∧
    onNext (exec .dgfrac { digitState 0 17 with delta := 5 }) (fun t => t.stateCode = 0xC) := by decide

/-- A rounding state: one unit is 1, w is 2 away, the headroom 4. -/
def roundState (b : Byte) (ndig : BitVec 5) (rem : U64) : State :=
  { State.reset with dig := State.reset.dig.set 17 b, ndig := ndig, rem := rem, unit := 1, wsc := 2, delta := 4 }

theorem witness_RoundDecrementsOrEnds_cases :
    (roundState 0x35 18 0).ndig.toNat ≤ 18 ∧
    onNext (exec .round (roundState 0x35 0 0)) (fun t => t.cause = 5) ∧
    onNext (exec .round (roundState 0x35 18 2)) (fun t => t.stateCode = 0xE) ∧
    onNext (exec .round (roundState 0x30 18 0)) (fun t => t.cause = 3) ∧
    onNext (exec .round (roundState 0x35 18 0)) (fun t => t.dig[17] = 0x34 && t.rem = 1) := by decide
theorem witness_EmitterLayouts : ∃ (d : List Byte) (n : Nat), d.length = n ∧ 1 ≤ n ∧ n ≤ 18 :=
  ⟨List.replicate 18 0x31, 18, by decide, by decide, by decide⟩
theorem witness_TextFitsBuffer : (List.replicate 18 (0x31 : Byte)).length = 18 ∧ ((7 : Int) + 18 - 1).natAbs ≤ 999 ∧
    25 < (finiteText (List.replicate 18 0x31) 18 7 true).length := by decide

/-- An EMIT state of `n` digits '1'. -/
def emitState (ndig : BitVec 5) (k : S32) (neg : Bool) : State :=
  { State.reset with dig := Vector.replicate 18 0x31, ndig := ndig, kexp := k, neg := neg }

theorem witness_EmitWritesTextOrFaults_cases :
    (emitState 18 0 false).ndig.toNat ≤ 18 ∧
    onNext (exec .emit (emitState 0 0 false)) (fun t => t.cause = 5) ∧
    onNext (exec .emit (emitState 1 1000 false)) (fun t => t.cause = 4) ∧
    onNext (exec .emit (emitState 1 999 false)) (fun t => t.done) ∧
    onNext (exec .emit (emitState 18 7 true)) (fun t => t.cause = 4) ∧
    onNext (exec .emit (emitState 18 7 false)) (fun t => t.outLen = 25) := by decide
/-- The bytes past NDIG are what State.reset holds. -/
theorem witness_EmitSignByte : ({ State.reset with dig := State.reset.dig.set 0 0x31 } : State).dig[0].toNat = 0x31 ∧
    onNext (exec .emit { State.reset with dig := State.reset.dig.set 0 0x31, ndig := 1, neg := true })
      (fun t => !t.fault && textOf t = [0x2D, 0x31]) := by decide
theorem witness_SpecialWritesFixedText_zero : onNext (exec .special { acceptConvert State.reset with cls := .zero, neg := true })
    (fun t => textOf t = [0x2D, 0x30] && t.done) := by decide
theorem witness_SpecialValuesTakeTwoSteps : (accepted 0xFFF0000000000000).Accepted ∧
    classify (bexpOf (accepted 0xFFF0000000000000).x) (fracOf (accepted 0xFFF0000000000000).x) ≠ .finite :=
  ⟨accepted_Accepted _, by decide⟩
theorem witness_FiniteValuesReachDigitGenerator : (accepted 0x40D0000000000000).Accepted ∧
    classify (bexpOf (accepted 0x40D0000000000000).x) (fracOf (accepted 0x40D0000000000000).x) = .finite :=
  ⟨accepted_Accepted _, by decide⟩
theorem witness_ConversionEndsWithinBound : (accepted 1).Accepted := accepted_Accepted 1
theorem witness_OnlyOutputOverflowCanFault : ∃ s t : State, s.Accepted ∧ runSteps 1 s = .next t :=
  ⟨accepted 1, _, accepted_Accepted 1, rfl⟩
theorem witness_ConversionIgnoresLeftovers : ∃ s s' t t' : State, s.Accepted ∧ s'.Accepted ∧ s.x = s'.x ∧ s ≠ s' ∧
    runSteps 1 s = .next t ∧ runSteps 1 s' = .next t' :=
  ⟨accepted 1, { accepted 1 with p1 := 7 }, _, _, accepted_Accepted 1, ⟨rfl, rfl, rfl, rfl, rfl, rfl⟩, rfl, by decide, rfl, rfl⟩
theorem witness_ConversionIgnoresLeftovers_done :
    onNext (runSteps 2 (accepted 0xFFF0000000000000)) (·.done) ∧
    onNext (runSteps 2 { accepted 0xFFF0000000000000 with p1 := 7, kexp := 9, ndig := 5 }) (·.done) := by decide
theorem witness_PseudoInstructionsExpand :
    onNext (exec .rdStatus (accepted 1)) (fun t => !pollEnds 0x1 0x0 t) ∧
    onNext (exec .rdStatus doneState) (fun t => pollEnds 0x1 0x0 t) := by decide
theorem witness_ReadsRepeat : doneState.busy = false ∧ doneState.fault = false ∧
    onNext (exec .rdStatus doneState) (fun _ => true) ∧ onNext (exec .rdOut0 doneState) (fun _ => true) := by decide
theorem witness_SequencerStepsWhateverTheHostDoes : ({ accepted 1 with pending := [.access 64 0x011 0] } : State).busy = true ∧
    ({ accepted 1 with pending := [.access 64 0x011 0] } : State).stateCode ≠ 0 := by decide
theorem witness_ConversionEndsAlikeWhateverTheHostDoes : (accepted 1).Accepted ∧
    Event.reset ∉ [Event.access 64 0x100 5, .command 1, .turn, .access 32 0x010 0, .access 64 0x010 0] :=
  ⟨accepted_Accepted 1, by decide⟩

end Sys2Proof.Tests
end

namespace Sys2Proof.Machine

/-! ### The state after reset -/

/-- Settles O9: the values are the fields of State.reset (10_state.md R44). -/
theorem resetStateHoldsListedValues : Obligations.ResetStateHoldsListedValues := by
  unfold Obligations.ResetStateHoldsListedValues
  decide

/-- Settles O10: every clause of the invariant is about registers to which R44 gives a value. -/
theorem resetStateIsSound : Obligations.ResetStateIsSound := by
  constructor <;> decide

/-! ### The words a host read returns -/

/-- Every field of STATUS is at its bits (10_state.md R21). -/
theorem statusWord_fields (s : State) :
    (statusWord s).getLsbD 0 = s.busy ∧ (statusWord s).getLsbD 1 = s.done ∧ (statusWord s).getLsbD 2 = s.fault ∧
    (statusWord s).getLsbD 3 = s.cmdErr ∧ (statusWord s).extractLsb' 4 4 = s.cause ∧
    (statusWord s).extractLsb' 8 2 = s.cls.code ∧ (statusWord s).getLsbD 10 = s.neg ∧
    (statusWord s).extractLsb' 11 5 = 0 ∧ (statusWord s).extractLsb' 16 4 = s.stateCode ∧
    (statusWord s).extractLsb' 20 44 = 0 := by
  refine ⟨?_, ?_, ?_, ?_, ?_, ?_, ?_, ?_, ?_, ?_⟩ <;>
    simp (disch := omega) only [statusWord, BitVec.getLsbD_append, BitVec.extractLsb'_append_eq_of_le,
      BitVec.extractLsb'_append_eq_of_add_le] <;>
    simp [bit]

/-- Every field of RESULT is at its bits (R22). -/
theorem packResult_fields (kexp : S32) (ndig outLen : BitVec 5) :
    (packResult kexp ndig outLen).extractLsb' 0 5 = outLen ∧ (packResult kexp ndig outLen).extractLsb' 5 3 = 0 ∧
    (packResult kexp ndig outLen).extractLsb' 8 5 = ndig ∧ (packResult kexp ndig outLen).extractLsb' 13 19 = 0 ∧
    (packResult kexp ndig outLen).extractLsb' 32 32 = kexp := by
  refine ⟨?_, ?_, ?_, ?_, ?_⟩ <;>
    simp (disch := omega) only [packResult, BitVec.extractLsb'_append_eq_of_le, BitVec.extractLsb'_append_eq_of_add_le] <;>
    simp

/-- Byte k of a packed register is at bits 8k+7 : 8k (20_memory.md R47). -/
theorem extractLsb'_packBytes (b : Nat → Byte) {k : Nat} (hk : k < 8) : (packBytes b).extractLsb' (8 * k) 8 = b k := by
  interval_cases k <;>
    simp (disch := omega) only [packBytes, BitVec.extractLsb'_append_eq_of_le, BitVec.extractLsb'_append_eq_of_add_le] <;>
    simp

theorem extractLsb'_outWord (j : Nat) (s : State) {k : Nat} (hk : k < 8) :
    (outWord j s).extractLsb' (8 * k) 8 = hostOutByte s (8 * j + k) := extractLsb'_packBytes _ hk

theorem extractLsb'_digWord (j : Nat) (s : State) {k : Nat} (hk : k < 8) :
    (digWord j s).extractLsb' (8 * k) 8 = hostDigByte s (8 * j + k) := extractLsb'_packBytes _ hk

/-- OUT has no byte past position 24 (R23). -/
theorem hostOutByte_of_ge (s : State) {i : Nat} (h : 25 ≤ i) : hostOutByte s i = 0 := dif_neg (by omega)

/-- DIG has no byte past position 17 (R24). -/
theorem hostDigByte_of_ge (s : State) {i : Nat} (h : 18 ≤ i) : hostDigByte s i = 0 := dif_neg (by omega)

theorem hostOutByte_of_lt {s : State} {i : Nat} (h : i < 25) (hb : s.busy = false) (hf : s.fault = false) :
    hostOutByte s i = s.out[i] := by
  simp [hostOutByte, h, resultsUnspecified_false.mpr ⟨hb, hf⟩]

theorem hostDigByte_of_lt {s : State} {i : Nat} (h : i < 18) (hb : s.busy = false) (hf : s.fault = false) :
    hostDigByte s i = s.dig[i] := by
  simp [hostDigByte, h, resultsUnspecified_false.mpr ⟨hb, hf⟩]

/-- Settles O13: the read returns `statusWord`, whose fields lie at their bits. -/
theorem readStatusReturnsFields : Obligations.ReadStatusReturnsFields :=
  fun s => ⟨statusWord s, rfl, statusWord_fields s⟩

/-- Settles O14: with BUSY = 0 and FAULT = 0 the read packs the registers themselves. -/
theorem readResultReturnsFields : Obligations.ReadResultReturnsFields := by
  intro s hb hf
  have hw : resultWord s = packResult s.kexp s.ndig s.outLen := by
    simp [resultWord, resultsUnspecified_false.mpr ⟨hb, hf⟩]
  exact ⟨resultWord s, rfl, hw ▸ packResult_fields s.kexp s.ndig s.outLen⟩

/-- The four OUT reads: their access codes, and the word each returns (47_top_level.md R142). -/
theorem decode_exec_rdOut {p : Nat × Instr} (hp : p ∈ [(0, Instr.rdOut0), (1, .rdOut1), (2, .rdOut2), (3, .rdOut3)]) :
    decode (.hacc (BitVec.ofNat 9 (0x20 + 8 * p.1)) 0) = p.2 ∧
    ∀ s : State, exec p.2 s = .next { s with readData := outWord p.1 s } := by
  fin_cases hp <;> exact ⟨by decide, fun _ => rfl⟩

/-- The three DIG reads likewise. -/
theorem decode_exec_rdDig {p : Nat × Instr} (hp : p ∈ [(0, Instr.rdDig0), (1, .rdDig1), (2, .rdDig2)]) :
    decode (.hacc (BitVec.ofNat 9 (0x40 + 8 * p.1)) 0) = p.2 ∧
    ∀ s : State, exec p.2 s = .next { s with readData := digWord p.1 s } := by
  fin_cases hp <;> exact ⟨by decide, fun _ => rfl⟩

/-- Settles O15: byte k of the word read is the host's view of position 8j + k of the buffer. -/
theorem readOutAndDigReturnBytes : Obligations.ReadOutAndDigReturnBytes := by
  constructor
  · intro p hp
    obtain ⟨hdecode, hexec⟩ := decode_exec_rdOut hp
    refine ⟨hdecode, fun s => ⟨outWord p.1 s, hexec s, fun k hk => ?_⟩⟩
    rw [extractLsb'_outWord p.1 s hk]
    exact ⟨hostOutByte_of_ge s, hostOutByte_of_lt⟩
  · intro p hp
    obtain ⟨hdecode, hexec⟩ := decode_exec_rdDig hp
    refine ⟨hdecode, fun s => ⟨digWord p.1 s, hexec s, fun k hk => ?_⟩⟩
    rw [extractLsb'_digWord p.1 s hk]
    exact ⟨hostDigByte_of_ge s, hostDigByte_of_lt⟩

end Sys2Proof.Machine

namespace Sys2Proof.Machine

/-! ### A micro-operation and the fields of the host's traffic -/

/-- `s` with other values in the fields of the host's traffic: IN, CMD_ERR, the returned DATA, and the pending events. -/
def State.withTraffic (v : U64) (b : Bool) (r : U64) (p : List Event) (s : State) : State :=
  { s with inReg := v, cmdErr := b, readData := r, pending := p }

/-- `f` applied to the state a result answers. -/
def mapNext (f : State → State) : Result → Result
  | .next s => .next (f s)
  | .fault e => .fault e
  | .refused e => .refused e

section
variable (v : U64) (b : Bool) (r : U64) (p : List Event) (s : State)

theorem appendDigit_withTraffic (d : Nat) :
    appendDigit d (s.withTraffic v b r p) = (appendDigit d s).map (State.withTraffic v b r p) := by
  simp only [appendDigit, apply_ite (Option.map (State.withTraffic v b r p))]
  rfl

theorem execPwalk_withTraffic :
    execPwalk (s.withTraffic v b r p) = mapNext (State.withTraffic v b r p) (execPwalk s) := by
  simp only [execPwalk, apply_ite (mapNext _)]
  rfl

theorem execDgint_withTraffic :
    execDgint (s.withTraffic v b r p) = mapNext (State.withTraffic v b r p) (execDgint s) := by
  simp only [execDgint, appendDigit_withTraffic]
  dsimp only [State.withTraffic]
  cases appendDigit (quot s.p1.toNat (tens (s.kappa.toInt - 1))) s with
  | none => rfl
  | some a =>
    simp only [apply_ite (mapNext _)]
    rfl

theorem execDgfrac_withTraffic :
    execDgfrac (s.withTraffic v b r p) = mapNext (State.withTraffic v b r p) (execDgfrac s) := by
  simp only [execDgfrac, appendDigit_withTraffic]
  dsimp only [State.withTraffic]
  cases appendDigit (s.p2.toNat * 10 / 2 ^ s.cut.toNat) s with
  | none => rfl
  | some a =>
    simp only [apply_ite (mapNext _)]
    rfl

theorem execRound_withTraffic :
    execRound (s.withTraffic v b r p) = mapNext (State.withTraffic v b r p) (execRound s) := by
  simp only [execRound, apply_ite (mapNext _)]
  rfl

theorem execEmit_withTraffic :
    execEmit (s.withTraffic v b r p) = mapNext (State.withTraffic v b r p) (execEmit s) := by
  simp only [execEmit, apply_ite (mapNext _)]
  rfl

/-- Every micro-operation answers the same, with the fields of the host's traffic as they are (10_state.md R19, 47_top_level.md R140,
20_memory.md R56). -/
theorem exec_uop_withTraffic (c : BitVec 4) :
    exec (decode (.uop c)) (s.withTraffic v b r p) = mapNext (State.withTraffic v b r p) (exec (decode (.uop c)) s) := by
  simp only [decode, decodeUop]
  split
  case h_7 => exact execPwalk_withTraffic v b r p s
  case h_12 => exact execDgint_withTraffic v b r p s
  case h_13 => exact execDgfrac_withTraffic v b r p s
  case h_14 => exact execRound_withTraffic v b r p s
  case h_15 => exact execEmit_withTraffic v b r p s
  all_goals rfl

end

/-- A micro-operation leaves the fields of the host's traffic: put into the state beforehand, they are found there afterwards. -/
theorem exec_uop_frame {c : BitVec 4} {s t : State} (h : exec (decode (.uop c)) s = .next t) :
    t.inReg = s.inReg ∧ t.cmdErr = s.cmdErr ∧ t.readData = s.readData ∧ t.pending = s.pending := by
  have he : t = t.withTraffic s.inReg s.cmdErr s.readData s.pending := by
    have := exec_uop_withTraffic s.inReg s.cmdErr s.readData s.pending s c
    rw [h] at this
    exact Host.Outcome.next.inj (h.symm.trans this)
  rw [he]
  exact ⟨rfl, rfl, rfl, rfl⟩

/-- Settles O27: other values of IN, CMD_ERR and DATA pass through a micro-operation, the pending events being as they were. -/
theorem sequencerIgnoresHostTraffic : Obligations.SequencerIgnoresHostTraffic := by
  intro c s t v r b h
  obtain ⟨-, -, -, hp⟩ := exec_uop_frame h
  have := exec_uop_withTraffic v b r s.pending s c
  rw [h] at this
  simpa only [State.withTraffic, mapNext, ← hp] using this

end Sys2Proof.Machine

namespace Sys2Proof.Machine

/-! ### What an instruction can do to the control fields -/

/-- Decoding keeps the format: only a STATE code decodes to a micro-operation (30_encoding.md R63). -/
theorem format_encode_decode (e : Enc) : (encode (decode e)).format = e.format := by
  cases e with
  | hacc code data =>
    simp only [decode, decodeHacc, apply_ite encode, apply_ite Enc.format]
    simp [encode, Enc.format]
  | cmd word =>
    simp only [decode, decodeCmd, apply_ite encode, apply_ite Enc.format]
    simp [encode, Enc.format]
  | uop code =>
    simp only [decode, decodeUop]
    split <;> rfl

/-- A host access or a command word writes IN, CMD_ERR and the returned DATA only, or is the CONVERT accepted while BUSY = 0
(47_top_level.md R127 to R131, R139 to R143). -/
theorem exec_host_cases {i : Instr} {s t : State} (hi : (encode i).format ≠ .uop) (h : exec i s = .next t) :
    t = { s with inReg := t.inReg, cmdErr := t.cmdErr, readData := t.readData } ∨
    (s.busy = false ∧ (i = .convert ∨ i = .wrCmd 1) ∧ t = acceptConvert s) := by
  cases i with
  | wrCmd v =>
    cases h
    obtain ⟨-, e⟩ | ⟨rfl, hb, e⟩ | ⟨-, -, e⟩ | ⟨-, -, e⟩ := writeCommand_cases v s
    · exact .inl (by rw [e])
    · exact .inr ⟨hb, .inr rfl, e⟩
    · exact .inl (by rw [e]; rfl)
    · exact .inl (by rw [e]; rfl)
  | convert =>
    cases h
    rcases Bool.eq_false_or_eq_true s.busy with hb | hb
    · exact .inl (by rw [convertCommand_busy hb]; rfl)
    · exact .inr ⟨hb, .inl rfl, convertCommand_idle hb⟩
  | notAdmitted1 | notAdmitted2 | notAdmitted4 => cases h
  | idle | decompose | special | bounds | normw | pinit | pwalk | mulw | mulu | mull | setup | dgint | dgfrac | round | emit
  | reservedUop => exact absurd rfl hi
  | _ => cases h; exact .inl rfl

/-- What the micro-operations of the codes 1 to 0xE do to the control fields: go on to another one, raise a guard fault
(60_exceptions.md R146) or complete (47_top_level.md R136). -/
inductive UopEffect (s t : State) : Prop where
  | continues (busy : t.busy = s.busy) (done : t.done = s.done) (fault : t.fault = s.fault) (cause : t.cause = s.cause)
      (running : t.stateCode ≠ Uop.idle ∧ t.stateCode ≠ 0xF)
      (ndig : s.ndig.toNat ≤ 18 → t.ndig.toNat ≤ 18) (outLen : t.outLen = s.outLen)
  | faults (c : FaultCause) (eq : t = raiseFault c s)
  | completes (a : State) (eq : t = complete a) (fault : a.fault = s.fault) (cause : a.cause = s.cause)
      (ndig : s.ndig.toNat ≤ 18 → a.ndig.toNat ≤ 18) (outLen : a.outLen.toNat ≤ 25)

/-- Append writes DIG and NDIG only, and does not overfill DIG (45_digit_generator.md R107). -/
theorem appendDigit_some {d : Nat} {s a : State} (h : appendDigit d s = some a) :
    ∃ dig ndig, a = { s with dig := dig, ndig := ndig } ∧ (s.ndig.toNat ≤ 18 → ndig.toNat ≤ 18) := by
  refine ⟨a.dig, a.ndig, appendDigit_frame h, fun hn => ?_⟩
  obtain ⟨-, -, e⟩ | ⟨-, -, e⟩ | ⟨-, h18, e⟩ := appendDigit_cases d s <;> rw [e] at h <;> cases h
  · exact hn
  · simp only; bv_omega

theorem toNat_toU5_length {text : List Byte} (h : text.length ≤ 25) : (toU5 text.length).toNat = text.length := by
  simp [toU5]; omega

/-- Every fixed text fits OUT, the free one included (47_top_level.md R132). -/
theorem specialText_length_le (c : Cls) (neg : Bool) (free : List Byte) :
    (specialText c neg (free.take Config.outCapacity)).length ≤ 25 := by
  cases c <;> cases neg <;> simp [specialText, signText, Config.outCapacity]

theorem execDecompose_effect {s t : State} (h : execDecompose s = .next t) : UopEffect s t := by
  cases h
  exact .continues rfl rfl rfl rfl (by dsimp only; split <;> simp) id rfl

theorem execSpecial_effect {s t : State} (h : execSpecial s = .next t) : UopEffect s t := by
  cases h
  have hl := specialText_length_le s.cls s.neg (Config.specialOutside s.tick)
  exact .completes _ rfl rfl rfl (fun _ => by simp) (by simpa [toNat_toU5_length hl] using hl)

theorem execPwalk_effect {s t : State} (h : execPwalk s = .next t) : UopEffect s t := by
  simp only [execPwalk] at h
  split at h
  · cases h; exact .faults _ rfl
  · split at h
    · cases h; exact .continues rfl rfl rfl rfl (by simp) id rfl
    · split at h <;> cases h <;> exact .continues rfl rfl rfl rfl (by simp) id rfl

theorem execDgint_effect {s t : State} (h : execDgint s = .next t) : UopEffect s t := by
  simp only [execDgint] at h
  split at h
  case h_1 => cases h; exact .faults _ rfl
  case h_2 a ha =>
    obtain ⟨dig, ndig, rfl, hn⟩ := appendDigit_some ha
    split at h <;> cases h
    · exact .continues rfl rfl rfl rfl (by simp) hn rfl
    · exact .continues rfl rfl rfl rfl (by dsimp only; split <;> simp) hn rfl

theorem execDgfrac_effect {s t : State} (h : execDgfrac s = .next t) : UopEffect s t := by
  simp only [execDgfrac] at h
  split at h
  case h_1 => cases h; exact .faults _ rfl
  case h_2 a ha =>
    obtain ⟨dig, ndig, rfl, hn⟩ := appendDigit_some ha
    split at h <;> cases h <;> exact .continues rfl rfl rfl rfl (by simp) hn rfl

theorem execRound_effect {s t : State} (h : execRound s = .next t) : UopEffect s t := by
  simp only [execRound] at h
  split at h
  · cases h; exact .faults _ rfl
  · split at h
    · split at h <;> cases h
      · exact .faults _ rfl
      · exact .continues rfl rfl rfl rfl (by simp) id rfl
    · cases h; exact .continues rfl rfl rfl rfl (by simp) id rfl

theorem execEmit_effect {s t : State} (h : execEmit s = .next t) : UopEffect s t := by
  simp only [execEmit] at h
  split at h
  · cases h; exact .faults _ rfl
  · split at h
    · cases h; exact .faults _ rfl
    · split at h <;> cases h
      · exact .faults _ rfl
      case isFalse hl =>
        exact .completes _ rfl rfl rfl id (by simp [toNat_toU5_length (Nat.le_of_not_lt hl)]; omega)

/-- Each micro-operation but IDLE has one of the three effects. -/
theorem exec_uop_effect {c : BitVec 4} {s t : State} (hc : c ≠ Uop.idle) (h : exec (decode (.uop c)) s = .next t) :
    UopEffect s t := by
  simp only [decode, decodeUop] at h
  split at h
  case h_1 => bv_omega
  case h_2 => exact execDecompose_effect h
  case h_3 => exact execSpecial_effect h
  case h_7 => exact execPwalk_effect h
  case h_12 => exact execDgint_effect h
  case h_13 => exact execDgfrac_effect h
  case h_14 => exact execRound_effect h
  case h_15 => exact execEmit_effect h
  case h_16 => cases h
  all_goals cases h; exact .continues rfl rfl rfl rfl (by simp) (by simp) rfl

/-! ### The control invariant -/

theorem State.Sound.acceptConvert {s : State} (h : s.Sound) : (acceptConvert s).Sound where
  busy_iff := by simp
  not_reserved := by simp
  busy_not_done := by simp
  busy_not_fault := by simp
  done_not_fault := by simp
  cause_zero := by simp
  cause_listed := by simp
  ndig_le := h.ndig_le
  outLen_le := h.outLen_le

theorem State.Sound.raiseFault {s : State} (h : s.Sound) (c : FaultCause) : (raiseFault c s).Sound where
  busy_iff := by simp
  not_reserved := by simp
  busy_not_done := by simp
  busy_not_fault := by simp
  done_not_fault := by simp
  cause_zero := by simp
  cause_listed := by cases c <;> simp [causeCode]
  ndig_le := h.ndig_le
  outLen_le := h.outLen_le

theorem State.Sound.applyReset (s : State) : (applyReset s).Sound := by
  constructor <;> simp

/-- A micro-operation that a running sequencer takes keeps the invariant. -/
theorem State.Sound.of_effect {s t : State} (h : s.Sound) (hrun : s.stateCode ≠ Uop.idle) (e : UopEffect s t) : t.Sound := by
  have hbusy : s.busy = true := h.busy_iff.mpr hrun
  have hdone := h.busy_not_done hbusy
  have hfault := h.busy_not_fault hbusy
  have hcause := h.cause_zero hfault
  cases e with
  | continues busy done fault cause running ndig outLen =>
    rw [hbusy] at busy
    rw [hdone] at done
    rw [hfault] at fault
    constructor <;> simp_all [h.ndig_le, h.outLen_le]
  | faults c eq => exact eq ▸ h.raiseFault c
  | completes a eq fault cause ndig outLen =>
    rw [hfault] at fault
    have := ndig h.ndig_le
    subst eq
    constructor <;> simp_all

/-- A host access or a command word keeps the invariant. -/
theorem State.Sound.of_host {i : Instr} {s t : State} (h : s.Sound) (hi : (encode i).format ≠ .uop) (he : exec i s = .next t) :
    t.Sound := by
  obtain eq | ⟨-, -, eq⟩ := exec_host_cases hi he
  · rw [eq]
    exact ⟨h.busy_iff, h.not_reserved, h.busy_not_done, h.busy_not_fault, h.done_not_fault, h.cause_zero, h.cause_listed,
      h.ndig_le, h.outLen_le⟩
  · exact eq ▸ h.acceptConvert

theorem State.Sound.advance {s : State} (h : s.Sound) : (advance s).Sound :=
  ⟨h.busy_iff, h.not_reserved, h.busy_not_done, h.busy_not_fault, h.done_not_fault, h.cause_zero, h.cause_listed,
    h.ndig_le, h.outLen_le⟩

/-- The one micro-operation a step runs is the one whose code is STATE (47_top_level.md R134). -/
theorem stateCode_of_fetch_uop {s : State} {c : BitVec 4} (h : fetch s = .form (.uop c)) : c = s.stateCode := by
  unfold fetch at h
  split at h
  case h_1 => cases h; rfl
  case h_2 => cases h
  case h_3 => split at h <;> cases h
  case h_4 => cases h

/-- A form the step runs keeps the invariant: a host's form, the sequencer's turn in IDLE, or that of a running sequencer. -/
theorem State.Sound.of_form {s t : State} {e : Enc} (h : s.Sound) (hf : fetch s = .form e)
    (he : exec (decode e) (Machine.advance s) = .next t) : t.Sound := by
  by_cases hu : e.format = .uop
  · cases e with
    | hacc | cmd => cases hu
    | uop c =>
      have hc : c = s.stateCode := stateCode_of_fetch_uop hf
      by_cases hidle : c = Uop.idle
      · subst hidle
        cases he
        exact h.advance
      · exact h.advance.of_effect (hc ▸ hidle) (exec_uop_effect hidle he)
  · exact h.advance.of_host (format_encode_decode e ▸ hu) he

/-- Settles O11: a reset makes the state sound, every other step is a decoded form, and each keeps the invariant. -/
theorem stepKeepsSound : Obligations.StepKeepsSound := by
  intro s t h hstep
  obtain ⟨e, hf, he⟩ | ⟨-, rfl⟩ := step_cases hstep
  · exact h.of_form hf he
  · exact .applyReset _

end Sys2Proof.Machine

namespace Sys2Proof.Machine

/-! ### Two conversions of one input

Each micro-operation reads only registers that the conversion has written. `LiveAgree s s' c` says that two states agree on the
registers that are still to be read when the micro-operation of code `c` runs; a micro-operation takes such a pair to such a pair, or
to two guard faults of one cause, or to two completed states with one result. -/

/-- The digits of the two states: one count, which fits DIG, and the same bytes below it. -/
def SameDigits (s s' : State) : Prop :=
  s.ndig = s'.ndig ∧ s.ndig.toNat ≤ 18 ∧ ∀ (i : Nat) (h : i < 18), i < s.ndig.toNat → s.dig[i] = s'.dig[i]

/-- CLS and NEG, written by DECOMPOSE. -/
def SameClass (s s' : State) : Prop := s.cls = s'.cls ∧ s.neg = s'.neg

/-- The value and its boundaries. -/
def SameBounds (s s' : State) : Prop := s.w = s'.w ∧ s.u = s'.u ∧ s.l = s'.l

/-- The cached power, written by PWALK. -/
def SamePower (s s' : State) : Prop := s.cp = s'.cp ∧ s.kdec = s'.kdec

/-- What both digit phases read. -/
def SameGenerator (s s' : State) : Prop :=
  s.cut = s'.cut ∧ s.p2 = s'.p2 ∧ s.delta = s'.delta ∧ s.wsc = s'.wsc ∧ s.kappa = s'.kappa ∧ s.kexp = s'.kexp

/-- What the Rounding Correction reads beside the digits. -/
def SameRounding (s s' : State) : Prop :=
  s.rem = s'.rem ∧ s.unit = s'.unit ∧ s.wsc = s'.wsc ∧ s.delta = s'.delta ∧ s.kexp = s'.kexp

/-- The results a host reads of a completed conversion. -/
def SameResults (s s' : State) : Prop :=
  SameClass s s' ∧ s.outLen = s'.outLen ∧ s.kexp = s'.kexp ∧ textOf s = textOf s' ∧ SameDigits s s'

/-- The two states agree on the registers that are live at the micro-operation of this code. -/
inductive LiveAgree (s s' : State) : BitVec 4 → Prop where
  | decompose (x : s.x = s'.x) : LiveAgree s s' Uop.decompose
  | special (cls : SameClass s s') (not_finite : s.cls ≠ .finite) : LiveAgree s s' Uop.special
  | bounds (cls : SameClass s s') (f : s.f = s'.f) : LiveAgree s s' Uop.bounds
  | normw (cls : SameClass s s') (f : s.f = s'.f) (u : s.u = s'.u) (l : s.l = s'.l) : LiveAgree s s' Uop.normw
  | pinit (cls : SameClass s s') (wul : SameBounds s s') : LiveAgree s s' Uop.pinit
  | pwalk (cls : SameClass s s') (wul : SameBounds s s') (idx : s.idx = s'.idx) : LiveAgree s s' Uop.pwalk
  | mulw (cls : SameClass s s') (wul : SameBounds s s') (power : SamePower s s') : LiveAgree s s' Uop.mulw
  | mulu (cls : SameClass s s') (wul : SameBounds s s') (power : SamePower s s') : LiveAgree s s' Uop.mulu
  | mull (cls : SameClass s s') (wul : SameBounds s s') (power : SamePower s s') : LiveAgree s s' Uop.mull
  | setup (cls : SameClass s s') (wul : SameBounds s s') (power : SamePower s s') : LiveAgree s s' Uop.setup
  | dgint (cls : SameClass s s') (gen : SameGenerator s s') (p1 : s.p1 = s'.p1) (wfrac : s.wfrac = s'.wfrac)
      (digits : SameDigits s s') : LiveAgree s s' Uop.dgint
  | dgfrac (cls : SameClass s s') (gen : SameGenerator s s') (digits : SameDigits s s') : LiveAgree s s' Uop.dgfrac
  | round (cls : SameClass s s') (rounding : SameRounding s s') (digits : SameDigits s s') : LiveAgree s s' Uop.round
  | emit (cls : SameClass s s') (kexp : s.kexp = s'.kexp) (digits : SameDigits s s') : LiveAgree s s' Uop.emit

/-- The flags of a conversion that is not at its end. -/
def State.Running (s : State) : Prop := s.busy = true ∧ s.done = false ∧ s.fault = false ∧ s.cause = 0

/-- Two conversions at one point: running with the same live registers, ended by one guard fault, or completed with one result. -/
inductive SameRun : State → State → Prop where
  | running {s s' : State} {c : BitVec 4} (run : s.Running) (run' : s'.Running) (code : s.stateCode = c) (code' : s'.stateCode = c)
      (live : LiveAgree s s' c) : SameRun s s'
  | faulted (c : FaultCause) (s s' : State) : SameRun (raiseFault c s) (raiseFault c s')
  | finished {s s' : State} (run : s.Running) (run' : s'.Running) (results : SameResults s s') : SameRun (complete s) (complete s')

/-! #### The digit buffer -/

theorem SameDigits.digAt_eq {s s' : State} (h : SameDigits s s') {i : Nat} (hi : i < s.ndig.toNat) : digAt s i = digAt s' i := by
  obtain ⟨-, hle, hdig⟩ := h
  have h18 : i < 18 := by omega
  rw [digAt_of_lt s h18, digAt_of_lt s' h18, hdig i h18 hi]

theorem SameDigits.digits_eq {s s' : State} (h : SameDigits s s') : digits s' s.ndig.toNat = digits s s.ndig.toNat :=
  List.map_congr_left fun _ hi => (h.digAt_eq (List.mem_range.mp hi)).symm

theorem SameDigits.writeDig {s s' : State} (h : SameDigits s s') (i : Nat) (b : Byte) :
    SameDigits (writeDig i b s) (writeDig i b s') := by
  obtain ⟨hn, hle, hdig⟩ := h
  refine ⟨hn, hle, fun j hj hlt => ?_⟩
  simp only [writeDig_dig, Vector.getElem_setIfInBounds, hdig j hj hlt]

/-- Append finds both buffers full, or writes the same digit to both (45_digit_generator.md R107). -/
theorem SameDigits.append {s s' : State} (h : SameDigits s s') (d : Nat) :
    (appendDigit d s = none ∧ appendDigit d s' = none) ∨
    ∃ v v' n, appendDigit d s = some { s with dig := v, ndig := n } ∧ appendDigit d s' = some { s' with dig := v', ndig := n } ∧
      SameDigits { s with dig := v, ndig := n } { s' with dig := v', ndig := n } := by
  obtain ⟨hn, hle, hdig⟩ := h
  obtain ⟨h0, hz, e⟩ | ⟨hc, h18, e⟩ | ⟨hc, h18, e⟩ := appendDigit_cases d s
  · have e' : appendDigit d s' = some s' := by simp [appendDigit, h0, ← hn, hz]
    exact .inr ⟨s.dig, s'.dig, s.ndig, e, by rw [e', hn], rfl, hle, hdig⟩
  · exact .inl ⟨e, by rw [appendDigit, ← hn, if_pos hc, if_pos h18]⟩
  · refine .inr ⟨_, _, s.ndig + 1, e, by rw [appendDigit, ← hn, if_pos hc, if_neg h18]; rfl, rfl, by simp only; bv_omega, ?_⟩
    intro i hi hlt
    have hlt' : i ≤ s.ndig.toNat := by simp only at hlt; bv_omega
    simp only [writeDig_dig, Vector.getElem_setIfInBounds]
    split
    · rfl
    · exact hdig i hi (by omega)

/-! #### The output buffer -/

/-- A text that fits OUT is read back whole (46_emitter.md R123, R124). -/
theorem textOf_writeText {text : List Byte} (h : text.length ≤ 25) (s : State) : textOf (writeText text s) = text := by
  have hl : (toU5 text.length).toNat = text.length := toNat_toU5_length h
  refine List.ext_getElem (by simp [textOf, hl, h]) fun i h1 h2 => ?_
  simp only [textOf, writeText_out, writeText_outLen, List.getElem_take, Vector.getElem_toList, getElem_writeBytes]
  simp [h2]

/-! #### The micro-operations -/

section
variable {s s' t t' : State}

theorem SameRun.of_decompose (run : s.Running) (run' : s'.Running) (x : s.x = s'.x)
    (hs : execDecompose s = .next t) (hs' : execDecompose s' = .next t') : SameRun t t' := by
  simp only [execDecompose, ← x] at hs hs'
  by_cases hc : classify (bexpOf s.x) (fracOf s.x) = .finite
  · simp only [hc, if_true] at hs hs'
    cases hs
    cases hs'
    exact .running run run' rfl rfl (.bounds ⟨rfl, rfl⟩ rfl)
  · simp only [if_neg hc] at hs hs'
    cases hs
    cases hs'
    exact .running run run' rfl rfl (.special ⟨rfl, rfl⟩ hc)

theorem SameRun.of_special (run : s.Running) (run' : s'.Running) (cls : SameClass s s') (not_finite : s.cls ≠ .finite)
    (hs : execSpecial s = .next t) (hs' : execSpecial s' = .next t') : SameRun t t' := by
  obtain ⟨hcls, hneg⟩ := cls
  have htext : specialText s'.cls s'.neg ((Config.specialOutside s'.tick).take Config.outCapacity) =
      specialText s.cls s.neg ((Config.specialOutside s.tick).take Config.outCapacity) := by
    rw [← hcls, ← hneg]
    cases h : s.cls with
    | finite => exact absurd h not_finite
    | zero | infinite | nan => rfl
  simp only [execSpecial, htext] at hs hs'
  cases hs
  cases hs'
  have hl := specialText_length_le s.cls s.neg (Config.specialOutside s.tick)
  exact .finished (s := { writeText _ s with ndig := 0, kexp := 0 }) (s' := { writeText _ s' with ndig := 0, kexp := 0 }) run run'
    ⟨⟨hcls, hneg⟩, rfl, rfl, (textOf_writeText hl s).trans (textOf_writeText hl s').symm, rfl, by simp, by simp⟩

theorem SameRun.of_pwalk (run : s.Running) (run' : s'.Running) (cls : SameClass s s') (wul : SameBounds s s')
    (idx : s.idx = s'.idx) (hs : execPwalk s = .next t) (hs' : execPwalk s' = .next t') : SameRun t t' := by
  obtain ⟨hw, hu, hl⟩ := wul
  simp only [execPwalk, ← idx, ← hu] at hs hs'
  split_ifs at hs hs' <;> cases hs <;> cases hs'
  · exact .faulted _ s s'
  · exact .running run run' rfl rfl (.pwalk cls ⟨hw, rfl, hl⟩ rfl)
  · exact .running run run' rfl rfl (.pwalk cls ⟨hw, rfl, hl⟩ rfl)
  · exact .running run run' rfl rfl (.mulw cls ⟨hw, rfl, hl⟩ ⟨rfl, rfl⟩)

theorem SameRun.of_dgint (run : s.Running) (run' : s'.Running) (cls : SameClass s s') (gen : SameGenerator s s')
    (p1 : s.p1 = s'.p1) (wfrac : s.wfrac = s'.wfrac) (digits : SameDigits s s')
    (hs : execDgint s = .next t) (hs' : execDgint s' = .next t') : SameRun t t' := by
  obtain ⟨hcut, hp2, hdelta, hwsc, hkappa, hkexp⟩ := gen
  simp only [execDgint, ← hcut, ← hp2, ← hdelta, ← hkappa, ← hkexp, ← p1, ← wfrac] at hs hs'
  obtain ⟨e, e'⟩ | ⟨v, v', n, e, e', hd⟩ := digits.append (quot s.p1.toNat (tens (s.kappa.toInt - 1)))
  · rw [e] at hs
    rw [e'] at hs'
    cases hs
    cases hs'
    exact .faulted _ s s'
  · rw [e] at hs
    rw [e'] at hs'
    split_ifs at hs hs' <;> cases hs <;> cases hs'
    · exact .running run run' rfl rfl (.round cls ⟨rfl, rfl, rfl, hdelta, rfl⟩ hd)
    · exact .running run run' rfl rfl (.dgfrac cls ⟨hcut, hp2, hdelta, hwsc, rfl, hkexp⟩ hd)
    · exact .running run run' rfl rfl (.dgint cls ⟨hcut, hp2, hdelta, hwsc, rfl, hkexp⟩ rfl wfrac hd)

theorem SameRun.of_dgfrac (run : s.Running) (run' : s'.Running) (cls : SameClass s s') (gen : SameGenerator s s')
    (digits : SameDigits s s') (hs : execDgfrac s = .next t) (hs' : execDgfrac s' = .next t') : SameRun t t' := by
  obtain ⟨hcut, hp2, hdelta, hwsc, hkappa, hkexp⟩ := gen
  simp only [execDgfrac, ← hcut, ← hp2, ← hdelta, ← hwsc, ← hkappa, ← hkexp] at hs hs'
  obtain ⟨e, e'⟩ | ⟨v, v', n, e, e', hd⟩ := digits.append (s.p2.toNat * 10 / 2 ^ s.cut.toNat)
  · rw [e] at hs
    rw [e'] at hs'
    cases hs
    cases hs'
    exact .faulted _ s s'
  · rw [e] at hs
    rw [e'] at hs'
    split_ifs at hs hs' <;> cases hs <;> cases hs'
    · exact .running run run' rfl rfl (.round cls ⟨rfl, rfl, rfl, rfl, rfl⟩ hd)
    · exact .running run run' rfl rfl (.dgfrac cls ⟨hcut, rfl, rfl, rfl, rfl, hkexp⟩ hd)

theorem SameRun.of_round (run : s.Running) (run' : s'.Running) (cls : SameClass s s') (rounding : SameRounding s s')
    (digits : SameDigits s s') (hs : execRound s = .next t) (hs' : execRound s' = .next t') : SameRun t t' := by
  obtain ⟨hrem, hunit, hwsc, hdelta, hkexp⟩ := rounding
  simp only [execRound, ← digits.1] at hs hs'
  by_cases h0 : s.ndig = 0
  · rw [if_pos h0] at hs hs'
    cases hs
    cases hs'
    exact .faulted _ s s'
  · have hlast : digAt s' (s.ndig.toNat - 1) = digAt s (s.ndig.toNat - 1) := (digits.digAt_eq (by bv_omega)).symm
    rw [if_neg h0] at hs hs'
    rw [hlast, ← hrem, ← hunit, ← hwsc, ← hdelta] at hs'
    split_ifs at hs hs' <;> cases hs <;> cases hs'
    · exact .faulted _ s s'
    · exact .running run run' rfl rfl (.round cls ⟨rfl, hunit, hwsc, hdelta, hkexp⟩ (digits.writeDig _ _))
    · exact .running run run' rfl rfl (.emit cls hkexp digits)

theorem SameRun.of_emit (run : s.Running) (run' : s'.Running) (cls : SameClass s s') (kexp : s.kexp = s'.kexp)
    (digits : SameDigits s s') (hs : execEmit s = .next t) (hs' : execEmit s' = .next t') : SameRun t t' := by
  simp only [execEmit, ← digits.1, digits.digits_eq, ← kexp, ← cls.2] at hs hs'
  split_ifs at hs hs' with _ _ hl <;> cases hs <;> cases hs'
  · exact .faulted _ s s'
  · exact .faulted _ s s'
  · exact .faulted _ s s'
  · have hl := Nat.le_of_not_lt hl
    exact .finished (s := writeText _ s) (s' := writeText _ s') run run'
      ⟨cls, rfl, kexp, (textOf_writeText hl s).trans (textOf_writeText hl s').symm, digits⟩

/-- The micro-operation of code `c` takes two states that agree on its live registers to one point. -/
theorem SameRun.of_uop {c : BitVec 4} (run : s.Running) (run' : s'.Running) (live : LiveAgree s s' c)
    (hs : exec (decode (.uop c)) s = .next t) (hs' : exec (decode (.uop c)) s' = .next t') : SameRun t t' := by
  cases live with
  | decompose x => exact .of_decompose run run' x hs hs'
  | special cls not_finite => exact .of_special run run' cls not_finite hs hs'
  | pwalk cls wul idx => exact .of_pwalk run run' cls wul idx hs hs'
  | dgint cls gen p1 wfrac digits => exact .of_dgint run run' cls gen p1 wfrac digits hs hs'
  | dgfrac cls gen digits => exact .of_dgfrac run run' cls gen digits hs hs'
  | round cls rounding digits => exact .of_round run run' cls rounding digits hs hs'
  | emit cls kexp digits => exact .of_emit run run' cls kexp digits hs hs'
  | bounds cls f =>
    cases hs
    cases hs'
    exact .running run run' rfl rfl (.normw cls f (by simp only [f]) (by simp only [f]))
  | normw cls f u l =>
    cases hs
    cases hs'
    exact .running run run' rfl rfl (.pinit cls ⟨by simp only [f], u, l⟩)
  | pinit cls wul =>
    cases hs
    cases hs'
    exact .running run run' rfl rfl (.pwalk cls wul (by simp only [wul.2.1]))
  | mulw cls wul power =>
    cases hs
    cases hs'
    exact .running run run' rfl rfl (.mulu cls ⟨by simp only [wul.1, power.1], wul.2⟩ power)
  | mulu cls wul power =>
    cases hs
    cases hs'
    exact .running run run' rfl rfl (.mull cls ⟨wul.1, by simp only [wul.2.1, power.1], wul.2.2⟩ power)
  | mull cls wul power =>
    cases hs
    cases hs'
    exact .running run run' rfl rfl (.setup cls ⟨wul.1, wul.2.1, by simp only [wul.2.2, power.1]⟩ power)
  | setup cls wul power =>
    obtain ⟨hw, hu, hl⟩ := wul
    simp only [decode, decodeUop, exec, execSetup, ← hw, ← hu, ← hl, ← power.2] at hs hs'
    cases hs
    cases hs'
    exact .running run run' rfl rfl (.dgint cls ⟨rfl, rfl, rfl, rfl, rfl, rfl⟩ rfl rfl ⟨rfl, by simp, by simp⟩)

end

/-! #### The run -/

theorem LiveAgree.advance {s s' : State} {c : BitVec 4} (h : LiveAgree s s' c) :
    LiveAgree (advance s) (Machine.advance s') c := by
  cases h <;> constructor <;> assumption

/-- With nothing pending a step is the sequencer's turn. -/
theorem step_of_pending_nil {s : State} (h : s.pending = []) : step s = exec (decode (.uop s.stateCode)) (advance s) :=
  step_of_form (by simp [fetch, nextEvent_of_nil h])

theorem pending_nil_of_step {s t : State} (h : s.pending = []) (hs : step s = .next t) : t.pending = [] := by
  rw [step_of_pending_nil h] at hs
  obtain ⟨-, -, -, hp⟩ := exec_uop_frame hs
  rw [hp, advance_pending, h]
  rfl

/-- Two conversions at one point are at one point after a step of each; the two counters may differ. -/
theorem SameRun.step {s s' t t' : State} (h : SameRun s s') (hp : s.pending = []) (hp' : s'.pending = [])
    (hs : step s = .next t) (hs' : Machine.step s' = .next t') : SameRun t t' := by
  rw [step_of_pending_nil hp] at hs
  rw [step_of_pending_nil hp'] at hs'
  cases h with
  | running run run' code code' live =>
    rw [code] at hs
    rw [code'] at hs'
    exact .of_uop (s := advance s) (s' := advance s') run run' live.advance hs hs'
  | faulted c a a' =>
    cases hs
    cases hs'
    exact .faulted c (advance a) (advance a')
  | @finished a a' run run' results =>
    cases hs
    cases hs'
    exact .finished (s := advance a) (s' := advance a') run run' results

/-- A run of k + 1 steps is a step and a run of k, for every machine of Host/Core.lean. -/
theorem exists_step_of_run_succ {M : Host.Core} {s t : M.State} {k : Nat} (h : M.run (k + 1) s = .next t) :
    ∃ u, M.step s = .next u ∧ M.run k u = .next t := by
  rw [Host.Core.run] at h
  split at h
  case h_1 u hu => exact ⟨u, hu, h⟩
  all_goals cases h

theorem runSteps_succ {s t : State} {k : Nat} (h : runSteps (k + 1) s = .next t) :
    ∃ u, step s = .next u ∧ runSteps k u = .next t :=
  exists_step_of_run_succ (M := core) h

theorem SameRun.runSteps {k : Nat} {s s' t t' : State} (h : SameRun s s') (hp : s.pending = []) (hp' : s'.pending = [])
    (hs : runSteps k s = .next t) (hs' : Machine.runSteps k s' = .next t') : SameRun t t' := by
  induction k generalizing s s' with
  | zero =>
    cases hs
    cases hs'
    exact h
  | succ k ih =>
    obtain ⟨u, hu, hrest⟩ := runSteps_succ hs
    obtain ⟨u', hu', hrest'⟩ := runSteps_succ hs'
    exact ih (h.step hp hp' hu hu') (pending_nil_of_step hp hu) (pending_nil_of_step hp' hu') hrest hrest'

theorem State.Accepted.running {s : State} (h : s.Accepted) : s.Running :=
  ⟨h.busy_set, h.done_clear, h.fault_clear, h.cause_clear⟩

/-- What the host sees of two conversions at one point (10_state.md R21, R25). -/
theorem SameRun.visible {t t' : State} (h : SameRun t t') :
    t.stateCode = t'.stateCode ∧ t.busy = t'.busy ∧ t.done = t'.done ∧ t.fault = t'.fault ∧ t.cause = t'.cause ∧
    (t.done = true → SameResults t t') := by
  cases h with
  | running run run' code code' live =>
    obtain ⟨hb, hd, hf, hc⟩ := run
    obtain ⟨hb', hd', hf', hc'⟩ := run'
    exact ⟨code.trans code'.symm, hb.trans hb'.symm, hd.trans hd'.symm, hf.trans hf'.symm, hc.trans hc'.symm, by simp [hd]⟩
  | faulted c a a' => exact ⟨rfl, rfl, rfl, rfl, rfl, nofun⟩
  | finished run run' results =>
    obtain ⟨-, -, hf, hc⟩ := run
    obtain ⟨-, -, hf', hc'⟩ := run'
    exact ⟨rfl, rfl, rfl, hf.trans hf'.symm, hc.trans hc'.symm, fun _ => results⟩

/-- Settles O54: DECOMPOSE reads X alone, and from there the two conversions stay at one point. -/
theorem conversionIgnoresLeftovers : Obligations.ConversionIgnoresLeftovers := by
  intro s s' t t' k hs hs' hx ht ht'
  have start : SameRun s s' := .running hs.running hs'.running hs.at_decompose hs'.at_decompose (.decompose hx)
  obtain ⟨hcode, hbusy, hdone, hfault, hcause, hresults⟩ :=
    (start.runSteps hs.pending_empty hs'.pending_empty ht ht').visible
  refine ⟨hcode, hbusy, hdone, hfault, hcause, fun hd => ?_⟩
  obtain ⟨⟨hcls, hneg⟩, houtLen, hkexp, htext, hndig, -, hdig⟩ := hresults hd
  exact ⟨hcls, hneg, houtLen, hndig, hkexp, htext, hdig⟩

end Sys2Proof.Machine

namespace Sys2Proof.Machine

/-! ### Accesses that are admitted -/

/-- ALN is 000 exactly when its three bits are 0 (30_encoding.md R64). -/
theorem aln_eq_zero_iff (code : BitVec 9) :
    code.extractLsb' 0 3 = 0 ↔ code.getLsbD 0 = false ∧ code.getLsbD 1 = false ∧ code.getLsbD 2 = false := by
  have h (i : Nat) (hi : i < 3) : (code.extractLsb' 0 3).getLsbD i = code.getLsbD i := by simp [hi]
  constructor
  · intro h0
    rw [← h 0 (by decide), ← h 1 (by decide), ← h 2 (by decide), h0]
    exact ⟨rfl, rfl, rfl⟩
  · intro ⟨h0, h1, h2⟩
    refine BitVec.eq_of_getLsbD_eq fun i hi => ?_
    rw [h i hi]
    interval_cases i
    · exact h0
    · exact h1
    · exact h2

/-- The instruction is none of the three forms of an access that is not admitted (30_encoding.md R65). -/
def isAdmittedForm : Instr → Bool
  | .notAdmitted1 _ _ | .notAdmitted2 _ _ | .notAdmitted4 _ _ => false
  | _ => true

theorem isAdmittedForm_iff (i : Instr) : isAdmittedForm i = true ↔
    (∀ hi d, i ≠ .notAdmitted1 hi d) ∧ (∀ hi d, i ≠ .notAdmitted2 hi d) ∧ ∀ hi d, i ≠ .notAdmitted4 hi d := by
  cases i <;> simp [isAdmittedForm]

/-- A 64-bit access is admitted exactly when ALN = 000 (20_memory.md R49). -/
theorem isAdmittedForm_decode_hacc (code : BitVec 9) (data : U64) :
    isAdmittedForm (decode (.hacc code data)) = true ↔ code.extractLsb' 0 3 = 0 := by
  rw [aln_eq_zero_iff]
  simp only [decode, decodeHacc, apply_ite isAdmittedForm]
  simp [isAdmittedForm]

/-- None of the three forms has a step (R49). -/
theorem exec_of_not_isAdmittedForm {i : Instr} (h : isAdmittedForm i = false) (s : State) : exec i s = .fault .hostStuck := by
  cases i with
  | notAdmitted1 | notAdmitted2 | notAdmitted4 => rfl
  | _ => cases h

/-- An access code with another ALN has no step. -/
theorem exec_hacc_of_aln_ne {code : BitVec 9} (h : code.extractLsb' 0 3 ≠ 0) (data : U64) (s : State) :
    exec (decode (.hacc code data)) s = .fault .hostStuck :=
  exec_of_not_isAdmittedForm (Bool.eq_false_iff.mpr (mt (isAdmittedForm_decode_hacc code data).mp h)) s

/-- Every admitted access and every command word completes. -/
theorem exists_exec_host {e : Enc} (he : e.format ≠ .uop) (h : isAdmittedForm (decode e) = true) (s : State) :
    ∃ t, exec (decode e) s = .next t := by
  rw [← format_encode_decode] at he
  cases hi : decode e with
  | notAdmitted1 | notAdmitted2 | notAdmitted4 => rw [hi] at h; cases h
  | idle | decompose | special | bounds | normw | pinit | pwalk | mulw | mulu | mull | setup | dgint | dgfrac | round | emit
  | reservedUop => rw [hi] at he; exact absurd rfl he
  | _ => exact ⟨_, rfl⟩

/-- No instruction takes or adds an event: the model's list is only moved on by the step itself (log 1). -/
theorem exec_pending {e : Enc} {s t : State} (h : exec (decode e) s = .next t) : t.pending = s.pending := by
  cases e with
  | uop c =>
    obtain ⟨-, -, -, hp⟩ := exec_uop_frame h
    exact hp
  | hacc | cmd =>
    obtain eq | ⟨-, -, eq⟩ := exec_host_cases (by rw [format_encode_decode]; nofun) h
    · rw [eq]
    · rw [eq]; rfl

/-- A 64-bit access presents itself (30_encoding.md R64). -/
theorem fetch_of_access {s : State} {code : BitVec 9} {data : U64} (h : nextEvent s = .access 64 code data) :
    fetch s = .form (.hacc code data) := by
  simp [fetch, h]

/-- The access a stuck host stays at (20_memory.md R49). -/
theorem sticksHost_access {bits : Nat} {code : BitVec 9} (data : U64) :
    (Event.access bits code data).sticksHost = true ↔ bits ≠ 64 ∨ code.extractLsb' 0 3 ≠ 0 := by
  simp [Event.sticksHost, admitted, -not_and]

/-- Behind a stuck host a step answers a next state only on the sequencer's turn or on a reset. -/
theorem nextEvent_of_step_stuck {s t : State} {bits : Nat} {code : BitVec 9} {data : U64} {rest : List Event}
    (hp : s.pending = .access bits code data :: rest) (he : (Event.access bits code data).sticksHost = true)
    (hs : step s = .next t) : nextEvent s = .turn ∨ nextEvent s = .reset := by
  cases hf : rest.find? (!·.isHost) with
  | some e =>
    have hn : nextEvent s = e := by simp [nextEvent, hp, he, hf]
    have hh := List.find?_some hf
    rw [hn]
    cases e with
    | access | command => cases hh
    | turn => exact .inl rfl
    | reset => exact .inr rfl
  | none =>
    by_cases hc : s.stateCode = Uop.idle
    · have hn : nextEvent s = .access bits code data := by simp [nextEvent, hp, he, hf, hc]
      by_cases hb : bits = 64
      · have haln : code.extractLsb' 0 3 ≠ 0 := ((sticksHost_access data).mp he).resolve_left (not_not.mpr hb)
        rw [step_of_form (fetch_of_access (hb ▸ hn)), exec_hacc_of_aln_ne haln] at hs
        cases hs
      · rw [step_of_notAdmitted (by simp [fetch, hn, hb])] at hs
        cases hs
    · exact .inl (by simp only [nextEvent, hp, he, hf, if_true, if_neg hc])

/-- No event that a step takes removes the access a host is stuck at (log 8). -/
theorem head_pending_of_step_stuck {s t : State} {e : Event} {rest : List Event} (hp : s.pending = e :: rest)
    (he : e.sticksHost = true) (hs : step s = .next t) : t.pending.head? = some e := by
  have ha : (advance s).pending = e :: rest.eraseP (!·.isHost) := by simp [hp, remaining, he]
  have ht : t.pending = (advance s).pending := by
    obtain ⟨enc, -, hx⟩ | ⟨-, rfl⟩ := step_cases hs
    · exact exec_pending hx
    · rfl
  rw [ht, ha]
  rfl

/-- Settles O6: a form that is not admitted stops, every other access completes, and behind a stuck host the turn and the
reset are all that is left of the events. -/
theorem onlyAlignedAccessesAreAdmitted : Obligations.OnlyAlignedAccessesAreAdmitted := by
  refine ⟨fun _ _ _ => rfl, fun _ _ _ => rfl, fun _ _ _ => rfl, fun s code data h => ?_, fun s code data h => ?_,
    fun s bits code data rest hp hb t hs => ?_⟩
  · exact exec_hacc_of_aln_ne h data s
  · exact exists_exec_host (e := .hacc code data) nofun ((isAdmittedForm_decode_hacc code data).mpr h) s
  · have he := (sticksHost_access data).mpr hb
    exact ⟨nextEvent_of_step_stuck hp he hs, head_pending_of_step_stuck hp he hs⟩

/-- W = 0 decodes to a read or to a form that is not admitted: no writing form (30_encoding.md R64). -/
def isWriteForm : Instr → Bool
  | .wrIn _ | .wrCmd _ | .wrIgnored110 _ _ | .wrIgnored120 _ _ | .wrIgnored140 _ _ | .wrIgnored180 _ _ => true
  | _ => false

theorem isWriteForm_decode_of_read {code : BitVec 9} (h : code.getLsbD 8 = false) (data : U64) :
    isWriteForm (decode (.hacc code data)) = false := by
  simp only [decode, decodeHacc, h, apply_ite isWriteForm]
  simp [isWriteForm]

/-- A host access that writes nothing changes the returned DATA only (20_memory.md R51). -/
theorem exec_read_frame {e : Enc} {s t : State} (he : e.format = .hacc) (hw : isWriteForm (decode e) = false)
    (h : exec (decode e) s = .next t) : t = { s with readData := t.readData } := by
  rw [← format_encode_decode] at he
  cases hi : decode e with
  | wrIn | wrCmd | wrIgnored110 | wrIgnored120 | wrIgnored140 | wrIgnored180 => rw [hi] at hw; cases hw
  | nop | convert | reservedCmd | idle | decompose | special | bounds | normw | pinit | pwalk | mulw | mulu | mull | setup | dgint
  | dgfrac | round | emit | reservedUop => rw [hi] at he; cases he
  | _ => rw [hi] at h; cases h <;> rfl

/-- Settles O19: a host's form writes the three fields of its traffic or is the accepted CONVERT, and a read writes DATA only. -/
theorem hostLeavesConversionAlone : Obligations.HostLeavesConversionAlone := by
  constructor
  · intro e s t he h
    exact exec_host_cases (format_encode_decode e ▸ he) h
  · intro code data s t hw h
    exact exec_read_frame rfl (isWriteForm_decode_of_read hw data) h

/-! ### Results after DONE -/

/-- With DONE = 1 a sound machine is in IDLE (10_state.md R21, 47_top_level.md R135). -/
theorem State.Sound.idle_of_done {s : State} (h : s.Sound) (hd : s.done = true) : s.stateCode = Uop.idle := by
  by_contra hc
  have := h.busy_not_done (h.busy_iff.mpr hc)
  simp [hd] at this

/-- A reset is taken where it is the next event (70_reset_and_hazards.md R162). -/
theorem nextEvent_of_fetch_reset {s : State} (h : fetch s = .reset) : nextEvent s = .reset := by
  unfold fetch at h
  split at h
  case h_4 he => exact he
  case h_3 => split at h <;> cases h
  all_goals cases h

/-- Settles O29: the sequencer is in IDLE, so a step is a turn that changes nothing or a host's form, and neither writes a
result. -/
theorem resultsStayAfterDone : Obligations.ResultsStayAfterDone := by
  intro s t hsound hdone hreset hs
  obtain ⟨e, hf, he⟩ | ⟨hf, -⟩ := step_cases hs
  case inr => exact absurd (nextEvent_of_fetch_reset hf) hreset
  cases e with
  | uop c =>
    obtain rfl : c = Uop.idle := (stateCode_of_fetch_uop hf).trans (hsound.idle_of_done hdone)
    cases he
    exact ⟨rfl, rfl, rfl, rfl, rfl, .inl hdone⟩
  | hacc | cmd =>
    obtain eq | ⟨-, -, eq⟩ := exec_host_cases (by rw [format_encode_decode]; nofun) he
    · rw [eq]
      exact ⟨rfl, rfl, rfl, rfl, rfl, .inl hdone⟩
    · rw [eq]
      exact ⟨rfl, rfl, rfl, rfl, rfl, .inr ⟨rfl, rfl⟩⟩

/-! ### Reads repeat -/

section
variable {s : State} (h : resultsUnspecified s = false)
include h

/-- With BUSY = 0 and FAULT = 0 the words of RESULT, OUT and DIG are the registers', whatever the counter (20_memory.md R52). -/
theorem resultWord_of_specified : resultWord s = packResult s.kexp s.ndig s.outLen := by
  simp [resultWord, h]

theorem outWord_of_specified (j : Nat) :
    outWord j s = packBytes fun k => if hk : 8 * j + k < 25 then s.out[8 * j + k] else 0 := by
  simp [outWord, hostOutByte, h]

theorem digWord_of_specified (j : Nat) :
    digWord j s = packBytes fun k => if hk : 8 * j + k < 18 then s.dig[8 * j + k] else 0 := by
  simp [digWord, hostDigByte, h]

end

/-- Reading again returns what was read, where the word read is none of what the read changed. -/
theorem exec_read_again {i : Instr} {w : State → U64} {s t : State} {p : List Event} {n : Nat}
    (hexec : ∀ s, exec i s = .next (returnData (w s) s)) (hw : w { returnData (w s) s with pending := p, tick := n } = w s)
    (h : exec i s = .next t) : exec i { t with pending := p, tick := n } = .next { t with pending := p, tick := n } := by
  rw [hexec] at h
  cases h
  rw [hexec, hw]
  rfl

/-- Where results are specified it is enough that the word is a function of registers that a read leaves. -/
theorem exec_specified_read_again {i : Instr} {w g : State → U64} {s t : State} {p : List Event} {n : Nat}
    (hexec : ∀ s, exec i s = .next (returnData (w s) s)) (hw : ∀ s, resultsUnspecified s = false → w s = g s)
    (hg : g { returnData (w s) s with pending := p, tick := n } = g s) (hs : resultsUnspecified s = false)
    (h : exec i s = .next t) : exec i { t with pending := p, tick := n } = .next { t with pending := p, tick := n } :=
  exec_read_again hexec ((hw { returnData (w s) s with pending := p, tick := n } hs).trans (hg.trans (hw s hs).symm)) h

/-- Settles O56: a read changes DATA only, so the second read finds the registers the first one found. -/
theorem readsRepeat : Obligations.ReadsRepeat := by
  intro s t p n
  constructor
  · intro i hi h
    simp only [List.mem_cons, List.not_mem_nil, or_false] at hi
    obtain rfl | rfl | rfl := hi
    · exact exec_read_again (w := State.inReg) (fun _ => rfl) rfl h
    · exact exec_read_again (w := fun _ => 0) (fun _ => rfl) rfl h
    · exact exec_read_again (w := statusWord) (fun _ => rfl) rfl h
  · intro i hi hb hf h
    have hs : resultsUnspecified s = false := resultsUnspecified_false.mpr ⟨hb, hf⟩
    simp only [List.mem_cons, List.not_mem_nil, or_false] at hi
    obtain rfl | rfl | rfl | rfl | rfl | rfl | rfl | rfl := hi
    · exact exec_specified_read_again (fun _ => rfl) (fun _ => resultWord_of_specified) rfl hs h
    · exact exec_specified_read_again (fun _ => rfl) (fun _ h => outWord_of_specified h 0) rfl hs h
    · exact exec_specified_read_again (fun _ => rfl) (fun _ h => outWord_of_specified h 1) rfl hs h
    · exact exec_specified_read_again (fun _ => rfl) (fun _ h => outWord_of_specified h 2) rfl hs h
    · exact exec_specified_read_again (fun _ => rfl) (fun _ h => outWord_of_specified h 3) rfl hs h
    · exact exec_specified_read_again (fun _ => rfl) (fun _ h => digWord_of_specified h 0) rfl hs h
    · exact exec_specified_read_again (fun _ => rfl) (fun _ h => digWord_of_specified h 1) rfl hs h
    · exact exec_specified_read_again (fun _ => rfl) (fun _ h => digWord_of_specified h 2) rfl hs h

/-! ### The result word in every state -/

/-- RESULT is packed from its three fields, of the registers or free ones (logs 5, 7). -/
theorem exists_resultWord_eq_packResult (s : State) : ∃ kexp ndig outLen, resultWord s = packResult kexp ndig outLen := by
  unfold resultWord
  split
  · exact ⟨_, _, _, rfl⟩
  · exact ⟨_, _, _, rfl⟩

/-- Settles O16: RESULT's two reserved fields read 0 whatever its other fields hold, free values included. -/
theorem resultReadCompletesInEveryState : Obligations.ResultReadCompletesInEveryState := by
  intro s
  obtain ⟨kexp, ndig, outLen, hw⟩ := exists_resultWord_eq_packResult s
  obtain ⟨-, h5, -, h13, -⟩ := packResult_fields kexp ndig outLen
  exact ⟨resultWord s, rfl, hw ▸ h5, hw ▸ h13⟩

/-! ### The placed word -/

theorem admitted_64 (code : BitVec 9) (data : U64) : admitted 64 code = isAdmittedForm (decode (.hacc code data)) := by
  rw [Bool.eq_iff_iff, isAdmittedForm_decode_hacc]
  simp [admitted]

/-- The form placed is the one the next step runs; an access that is not admitted alone displaces the events and STATE (log 2). -/
theorem step_place (e : Enc) (s : State) : ∃ c p,
    (isAdmittedForm (decode e) = true → p = s.pending ∧ (e.format ≠ .uop → c = s.stateCode)) ∧
    step (place e s) = exec (decode e) { s with stateCode := c, pending := p, tick := s.tick + 1 } := by
  cases e with
  | uop code => exact ⟨code, s.pending, fun _ => ⟨rfl, fun h => absurd rfl h⟩, rfl⟩
  | cmd word => exact ⟨s.stateCode, s.pending, fun _ => ⟨rfl, fun _ => rfl⟩, rfl⟩
  | hacc code data =>
    cases ha : admitted 64 code with
    | true =>
      have he : (Event.access 64 code data).sticksHost = false := by simp [Event.sticksHost, ha]
      refine ⟨s.stateCode, s.pending, fun _ => ⟨rfl, fun _ => rfl⟩, ?_⟩
      simp only [place, ha, if_true]
      rw [step_of_form (fetch_of_access (nextEvent_of_cons (s := { s with pending := _ :: _ }) rfl he))]
      simp only [advance, remaining_of_cons _ he]
    | false =>
      have he : (Event.access 64 code data).sticksHost = true := by simp [Event.sticksHost, ha]
      refine ⟨Uop.idle, [.access 64 code data], fun h => ?_, ?_⟩
      · rw [← admitted_64, ha] at h
        cases h
      · simp only [place, ha, Bool.false_eq_true, if_false]
        rw [step_of_form (fetch_of_access (code := code) (data := data) (by simp [nextEvent, he]))]
        simp [advance, remaining, he]

/-- The bytes of a format hold a form of that format (log 13). -/
theorem format_of_ofBytes {fmt : Format} {bs : List Byte} {e : Enc} (h : Enc.ofBytes fmt bs = .ok e) : e.format = fmt := by
  unfold Enc.ofBytes at h
  split at h
  · cases h
  · cases fmt with
    | cmd => cases h; rfl
    | hacc | uop =>
      dsimp only at h
      split at h <;> cases h
      rfl

/-- A word of the table that decodes holds a form of the format its number of bits tells. -/
theorem exists_enc_of_decodeTableWord {nbits w : Nat} {i : Instr} (h : decodeTableWord nbits w = some i) :
    ∃ e, encOfTableWord nbits w = .ok e ∧ e.format = formatOfBits nbits ∧ decode e = i := by
  unfold decodeTableWord at h
  split at h
  case h_2 => cases h
  case h_1 e he =>
    refine ⟨e, he, ?_, Option.some.inj h⟩
    simp only [encOfTableWord] at he
    split at he
    · cases he
    · exact format_of_ofBytes he

/-- Settles O5: the word's form is placed, and more than 8 bits hold no STATE code. -/
theorem placedWordRunsNext : Obligations.PlacedWordRunsNext := by
  intro s nbits w i h
  obtain ⟨e, he, hfmt, rfl⟩ := exists_enc_of_decodeTableWord h
  obtain ⟨c, p, hplaced, hstep⟩ := step_place e s
  refine ⟨c, p, fun h1 h2 h4 => ?_, ?_⟩
  · obtain ⟨hp, hc⟩ := hplaced ((isAdmittedForm_iff _).mpr ⟨h1, h2, h4⟩)
    have hne (hn : 8 < nbits) : formatOfBits nbits ≠ .uop := by
      rw [formatOfBits, if_neg (by omega)]
      split_ifs <;> nofun
    exact ⟨hp, fun hn => hc (hfmt ▸ hne hn)⟩
  · simp only [State.withFetchWord, placeTableWord, he]
    exact hstep

end Sys2Proof.Machine

namespace Sys2Proof.Machine

/-! ### Narrowing a value that fits -/

theorem toNat_toU64 {n : Int} (h0 : 0 ≤ n) (h1 : n < 2 ^ 64) : ((toU64 n).toNat : Int) = n := by
  rw [toU64, BitVec.toNat_ofInt, Int.toNat_of_nonneg (by omega)]
  omega

theorem toInt_toS32 {n : Int} (h0 : -2 ^ 31 ≤ n) (h1 : n < 2 ^ 31) : (toS32 n).toInt = n := by
  rw [toS32, BitVec.toInt_ofInt]
  exact Int.bmod_eq_of_le (by omega) (by omega)

theorem toInt_toS8 {n : Int} (h0 : -2 ^ 7 ≤ n) (h1 : n < 2 ^ 7) : (toS8 n).toInt = n := by
  rw [toS8, BitVec.toInt_ofInt]
  exact Int.bmod_eq_of_le (by omega) (by omega)

/-! ### The finite input and its boundaries (41_decomposer.md R77, 42_boundary.md R82 to R84) -/

/-- The decomposed value of a FINITE input: a mantissa of at most 53 bits, and the least exponent where it has fewer (R77). -/
def IsFiniteDec (d : Dec) : Prop :=
  0 < d.m.toNat ∧ d.m.toNat < 2 ^ 53 ∧ -1074 ≤ d.e.toInt ∧ d.e.toInt ≤ 971 ∧ (d.m.toNat < 2 ^ 52 → d.e.toInt = -1074)

theorem isFiniteDec_extract {x : U64} (h : classify (bexpOf x) (fracOf x) = .finite) :
    IsFiniteDec (toDec (extract (bexpOf x) (fracOf x))) := by
  have hb : bexpOf x < 2 ^ 11 := (x.extractLsb' 52 11).isLt
  have hf : fracOf x < 2 ^ 52 := (x.extractLsb' 0 52).isLt
  have hc : (bexpOf x = 0 → fracOf x ≠ 0) ∧ bexpOf x ≠ 0x7FF := by
    unfold classify at h
    split_ifs at h <;> simp_all
  simp only [extract, Config.exponentBias, Config.implicitBit]
  split
  · have hm := toNat_toU64 (n := fracOf x) (by omega) (by omega)
    have he := toInt_toS32 (n := 1 - 1075) (by omega) (by omega)
    simp only [IsFiniteDec, toDec, he]
    omega
  · have hm := toNat_toU64 (n := fracOf x + (2 ^ 52 : Nat)) (by omega) (by omega)
    have he := toInt_toS32 (n := bexpOf x - 1075) (by omega) (by omega)
    simp only [IsFiniteDec, toDec, he]
    omega

/-- The upper boundary's shift: `2m + 1` has from 2 to 54 bits, and 54 where the mantissa has 53. -/
theorem bitlen_two_mul_add_one {m : Nat} (h0 : 0 < m) (h1 : m < 2 ^ 53) :
    2 ≤ bitlen (2 * m + 1) ∧ bitlen (2 * m + 1) ≤ 54 ∧ (2 ^ 52 ≤ m → bitlen (2 * m + 1) = 54) := by
  have hlt := lt_two_pow_bitlen (2 * m + 1)
  have hle : bitlen (2 * m + 1) ≤ 54 := bitlen_le_of_lt (by omega)
  have hgt {k : Nat} (hk : 2 ^ k < 2 * m + 1) : k < bitlen (2 * m + 1) :=
    (Nat.pow_lt_pow_iff_right (by decide : 1 < 2)).mp (hk.trans hlt)
  have h2 := hgt (k := 1) (by omega)
  refine ⟨h2, hle, fun h => ?_⟩
  have := hgt (k := 53) (by omega)
  omega

theorem upper_eq {m : Nat} (h1 : m < 2 ^ 53) (e : Int) :
    upper m e = ((2 * m + 1) * 2 ^ (64 - bitlen (2 * m + 1)), e - 65 + bitlen (2 * m + 1)) := by
  rw [upper, norm_of_mem (by omega) (by omega)]
  congr 1
  omega

/-- The lower boundary lies at least 2^10 below the upper one, and both fit 64 bits (R84). -/
theorem lower_add_le_upper {m : Nat} (h0 : 0 < m) (h1 : m < 2 ^ 53) (e : Int) :
    0 ≤ (lower m e).1 ∧ (lower m e).1 + 2 ^ 10 ≤ (upper m e).1 ∧ (upper m e).1 < 2 ^ 64 := by
  obtain ⟨h2, h54, -⟩ := bitlen_two_mul_add_one h0 h1
  have hfit := (norm_mantissa_range (m := 2 * m + 1) (by omega) (by omega)).2
  have hls : lowerShift m = 1 ∨ lowerShift m = 2 := by unfold lowerShift; split <;> simp
  simp only [lower, upper_eq h1]
  obtain ⟨k, hk⟩ : ∃ k, bitlen (2 * m + 1) + (k + 10) = 64 := ⟨54 - bitlen (2 * m + 1), by omega⟩
  have hk' : 64 - bitlen (2 * m + 1) = k + 10 := by omega
  rw [hk'] at hfit ⊢
  rw [if_pos (by omega)]
  have hsh : (e - lowerShift m - (e - 65 + bitlen (2 * m + 1))).toNat = k + 11 - lowerShift m := by omega
  rw [hsh]
  have hlower : ((m : Int) * 2 ^ lowerShift m - 1) * 2 ^ (k + 11 - lowerShift m) =
      m * 2 ^ (k + 11) - 2 ^ (k + 11 - lowerShift m) := by
    rw [sub_mul, one_mul, mul_assoc, ← pow_add]
    congr 3
    omega
  have hupper : (2 * m + 1) * 2 ^ (k + 10) = m * 2 ^ (k + 11) + 2 ^ (k + 10) := by ring
  have hle : 2 ^ (k + 11 - lowerShift m) ≤ 2 ^ (k + 10) := Nat.pow_le_pow_right (by decide) (by omega)
  have hk10 : 2 ^ 10 ≤ 2 ^ (k + 10) := Nat.pow_le_pow_right (by decide) (by omega)
  have hm : 1 * 2 ^ (k + 11) ≤ m * 2 ^ (k + 11) := Nat.mul_le_mul_right _ h0
  have hdouble : 2 ^ (k + 11) = 2 * 2 ^ (k + 10) := by ring
  rw [hlower]
  rw [hupper] at hfit ⊢
  have hpos : 0 < 2 ^ (k + 11 - lowerShift m) := Nat.two_pow_pos _
  zify at hle hk10 hm hdouble hfit hpos ⊢
  omega

/-- The boundaries before scaling: the exponent that the lookup takes, and the gap between the mantissas (R84). -/
def IsBracket (u l : Dec) : Prop := -1137 ≤ u.e.toInt ∧ u.e.toInt ≤ 960 ∧ l.m.toNat + 2 ^ 10 ≤ u.m.toNat

theorem isBracket_of_isFiniteDec {d : Dec} (h : IsFiniteDec d) :
    IsBracket (toDec ((upper d.m.toNat d.e.toInt).1, (upper d.m.toNat d.e.toInt).2)) (toDec (lower d.m.toNat d.e.toInt)) := by
  obtain ⟨h0, h1, he0, he1, hsub⟩ := h
  obtain ⟨h2, h54, hnormal⟩ := bitlen_two_mul_add_one h0 h1
  obtain ⟨hl0, hgap, hu⟩ := lower_add_le_upper h0 h1 d.e.toInt
  have hue : (upper d.m.toNat d.e.toInt).2 = d.e.toInt - 65 + bitlen (2 * d.m.toNat + 1) := by rw [upper_eq h1]
  have hrange : -1137 ≤ (upper d.m.toNat d.e.toInt).2 ∧ (upper d.m.toNat d.e.toInt).2 ≤ 960 := by omega
  have hum := toNat_toU64 (n := (upper d.m.toNat d.e.toInt).1) (by omega) (by omega)
  have hlm := toNat_toU64 hl0 (by omega)
  have hte := toInt_toS32 (n := (upper d.m.toNat d.e.toInt).2) (by omega) (by omega)
  simp only [IsBracket, toDec, hte]
  omega

/-! ### The cached power (43_cached_power.md R90 to R94) -/

/-- Below 2^64 the binary64 rounding moves an integer by at most 2^11 (log 14). -/
theorem round53_near {p : Nat} (h : p < 2 ^ 64) : p ≤ round53 p + 2 ^ 11 ∧ round53 p ≤ p + 2 ^ 11 := by
  have hd : 2 ^ (bitlen p - 53) ≤ 2 ^ 11 :=
    Nat.pow_le_pow_right (by decide) (by have := bitlen_le_of_lt h; omega)
  have hdm := Nat.div_add_mod' p (2 ^ (bitlen p - 53))
  have hr := Nat.mod_lt p (Nat.two_pow_pos (bitlen p - 53))
  simp only [round53]
  split_ifs
  · rw [Nat.succ_mul]
    omega
  · omega

/-- `approx` is within one of `-(e + 87) * log10 2`, on the side where truncation toward zero leaves it (R91). -/
theorem log10Approx_near {e : Int} (h0 : -1137 ≤ e) (h1 : e ≤ 960) :
    log10Approx e * 2 ^ 54 ≤ -(e + 87) * log2Significand + 2 ^ 54 + 2 ^ 11 ∧
    -(e + 87) * log2Significand < log10Approx e * 2 ^ 54 + 2 ^ 54 + 2 ^ 11 ∧ -316 ≤ log10Approx e ∧ log10Approx e ≤ 316 := by
  have hnear := round53_near (p := (-(e + 87)).natAbs * log2Significand) (by simp only [log2Significand]; omega)
  simp only [log10Approx, Config.powEntries, log2Significand] at hnear ⊢
  push_cast
  split_ifs <;> omega

theorem powEntry_range : ∀ i < 87, 2 ^ 63 ≤ (powEntry i).1 ∧ (powEntry i).1 < 2 ^ 64 ∧ -1220 ≤ (powEntry i).2 ∧
    (powEntry i).2 ≤ 1066 := by decide

/-- Two entries' binary exponents differ by at most 27, less than the window's width. -/
theorem powEntry_succ : ∀ i < 86, (powEntry (i + 1)).2 ≤ (powEntry i).2 + 27 := by decide

/-- An exponent for which entry `i + 2` lies below the window has an `approx` that gives an initial index above `i`; this is that
bound, entry by entry, with the slack of `log10Approx_near` (R91, R94). -/
theorem initialIndex_not_too_low : ∀ i : Nat, i < 85 →
    2 ^ 54 * (8 * (i : Int) - 340) + 2 ^ 11 ≤ (38 + (powEntry (i + 2)).2) * log2Significand := by decide

/-- An exponent for which entry `i` lies above the window has an `approx` that gives an initial index below `i`, likewise. -/
theorem initialIndex_not_too_high : ∀ i : Nat, i < 87 →
    ((powEntry i).2 + 8) * log2Significand + 2 ^ 54 + 2 ^ 11 < 2 ^ 54 * (8 * (i : Int) - 348) := by decide

/-- The walk starts at most two entries below the window and not above it (R94). -/
theorem initialIndex_near {e : Int} (h0 : -1137 ≤ e) (h1 : e ≤ 960) :
    ∃ i : Nat, initialIndex e = i ∧ i + 2 ≤ 86 ∧ scaledExp e i ≤ Config.windowHi ∧ Config.windowLo ≤ scaledExp e (i + 2) := by
  obtain ⟨hup, hlow, ha0, ha1⟩ := log10Approx_near h0 h1
  have hidx : initialIndex e = (log10Approx e + 348) / 8 := by
    simp only [initialIndex, trunc0, Config.powFirstExp, Config.powExpStep, sub_neg_eq_add]
    exact Int.tdiv_eq_ediv_of_nonneg (by omega)
  obtain ⟨i, hi⟩ : ∃ i : Nat, initialIndex e = i := ⟨(initialIndex e).toNat, by omega⟩
  have h85 : i < 85 := by omega
  have hlo := initialIndex_not_too_low i h85
  have hhi := initialIndex_not_too_high i (by omega)
  simp only [log2Significand] at hup hlow hlo hhi
  simp only [scaledExp, Config.windowHi, Config.windowLo, Config.mulExpOffset]
  exact ⟨i, hi, by omega, by omega, by omega⟩

end Sys2Proof.Machine

namespace Sys2Proof.Machine

/-! ### The scaled boundaries (44_multiplier.md R96 to R103) -/

/-- The product is rounded to nearest, ties up (R96). -/
theorem mulMant_eq (am bm : Nat) : mulMant am bm = (am * bm + 2 ^ 63) / 2 ^ 64 := by
  simp only [mulMant]
  split <;> omega

theorem mulMant_lt {am bm : Nat} (ha : am < 2 ^ 64) (hb : bm < 2 ^ 64) : mulMant am bm < 2 ^ 64 := by
  have := Nat.mul_le_mul (Nat.le_sub_one_of_lt ha) (Nat.le_sub_one_of_lt hb)
  rw [mulMant_eq]
  omega

/-- Scaling by a normalized power keeps at least half of a gap (R103). -/
theorem mulMant_gap {l u c : Nat} (h : l + 2 ^ 10 ≤ u) (hc : 2 ^ 63 ≤ c) : mulMant l c + 2 ^ 9 ≤ mulMant u c := by
  have hu : (l + 2 ^ 10) * c ≤ u * c := Nat.mul_le_mul_right _ h
  rw [Nat.add_mul] at hu
  simp only [mulMant_eq]
  omega

theorem toNat_mul_m (a b : Dec) : (mul a b).m.toNat = mulMant a.m.toNat b.m.toNat := by
  have := toNat_toU64 (n := mulMant a.m.toNat b.m.toNat) (by omega) (by exact_mod_cast mulMant_lt a.m.isLt b.m.isLt)
  simp only [mul, toDec]
  omega

/-- The power that the walk found: normalized, and it brings the upper boundary's exponent into the window (R90, R93). -/
def IsPowerFor (u cp : Dec) : Prop := 2 ^ 63 ≤ cp.m.toNat ∧ -60 ≤ (mul u cp).e.toInt ∧ (mul u cp).e.toInt ≤ -32

theorem isPowerFor_powEntry {u : Dec} {i : Nat} (h0 : -1137 ≤ u.e.toInt) (h1 : u.e.toInt ≤ 960) (hi : i ≤ 86)
    (hlo : Config.windowLo ≤ scaledExp u.e.toInt i) (hhi : scaledExp u.e.toInt i ≤ Config.windowHi) :
    IsPowerFor u (toDec ((powEntry i).1, (powEntry i).2)) := by
  obtain ⟨hm0, hm1, he0, he1⟩ := powEntry_range i (by omega)
  have hm := toNat_toU64 (n := (powEntry i).1) (by omega) (by omega)
  have he := toInt_toS32 (n := (powEntry i).2) (by omega) (by omega)
  have hmul := toInt_toS32 (n := u.e.toInt + (powEntry i).2 + Config.mulExpOffset)
    (by simp only [Config.mulExpOffset]; omega) (by simp only [Config.mulExpOffset]; omega)
  simp only [scaledExp, Config.windowLo, Config.windowHi] at hlo hhi
  simp only [IsPowerFor, mul, toDec, he, hmul]
  omega

/-! ### The parts of the narrowed upper boundary (45_digit_generator.md R105) -/

/-- What the digit phases keep of the cut: P2 is the fraction below it, and it is at most 60 (R32, R33). -/
def IsFraction (p2 : U64) (cut : BitVec 6) : Prop := cut.toNat ≤ 60 ∧ p2.toNat < 2 ^ cut.toNat

theorem toNat_toU64_natCast {v : Nat} (h : v < 2 ^ 64) : (toU64 v).toNat = v := by
  exact_mod_cast toNat_toU64 (n := v) (by omega) (by omega)

/-- SETUP's fraction, integer part and DELTA, in the ranges that bound the digit phases (R105). -/
theorem setup_parts {u l : Dec} (h0 : -60 ≤ u.e.toInt) (h1 : u.e.toInt ≤ -32) (hgap : l.m.toNat + 2 ^ 9 ≤ u.m.toNat) :
    IsFraction (toU64 (splitAtCut (u.m.toNat - 1) u.e.toInt).2) (toU6 (-u.e.toInt)) ∧
    (toU64 (splitAtCut (u.m.toNat - 1) u.e.toInt).1).toNat < 10 ^ 10 ∧
    116 ≤ (toU64 ((u.m.toNat - 1 : Int) - (l.m.toNat + 1))).toNat := by
  have hlt := u.m.isLt
  have hdelta := toNat_toU64 (n := (u.m.toNat - 1 : Int) - (l.m.toNat + 1)) (by omega) (by omega)
  obtain ⟨c, hc⟩ : ∃ c : Nat, -u.e.toInt = c := ⟨(-u.e.toInt).toNat, by omega⟩
  obtain ⟨v, hv⟩ : ∃ v : Nat, (u.m.toNat : Int) - 1 = v := ⟨u.m.toNat - 1, by omega⟩
  have hcut : (toU6 (-u.e.toInt)).toNat = c := by
    rw [toU6, BitVec.toNat_ofInt]
    omega
  have hsplit : splitAtCut v u.e.toInt = (((v / 2 ^ c : Nat) : Int), ((v % 2 ^ c : Nat) : Int)) := by
    rw [splitAtCut_of_nonneg (ue := u.e.toInt) (by omega), hc, Int.toNat_natCast]
    norm_cast
  have hp1 : v / 2 ^ c < 2 ^ 32 :=
    Nat.div_lt_of_lt_mul <| calc
      v < 2 ^ 32 * 2 ^ 32 := by omega
      _ ≤ 2 ^ c * 2 ^ 32 := Nat.mul_le_mul_right _ (Nat.pow_le_pow_right (by decide) (by omega))
  have hp2 : v % 2 ^ c < 2 ^ c := Nat.mod_lt _ (Nat.two_pow_pos c)
  have h60 : 2 ^ c ≤ 2 ^ 60 := Nat.pow_le_pow_right (by decide) (by omega)
  rw [IsFraction, hcut, hv, hsplit, toNat_toU64_natCast (by omega), toNat_toU64_natCast (by omega)]
  rw [hv] at hdelta
  omega

/-! ### One digit (45_digit_generator.md R106 to R108) -/

/-- DIG ends in the digit `d`, if it holds any. -/
def EndsInDigit (d : Nat) (dig : Vector Byte 18) (ndig : BitVec 5) : Prop :=
  ndig.toNat ≤ 18 ∧ ∀ (i : Nat) (h : i < 18), i + 1 = ndig.toNat → dig[i].toNat = 0x30 + d

theorem EndsInDigit.ndig_le {d : Nat} {dig : Vector Byte 18} {ndig : BitVec 5} (h : EndsInDigit d dig ndig) : ndig.toNat ≤ 18 :=
  h.1

theorem toNat_digitByte {d : Nat} (h : d ≤ 9) : (digitByte d).toNat = 0x30 + d := by
  rw [digitByte, BitVec.toNat_ofNat]
  omega

/-- After Append the last digit is the one appended (R107). -/
theorem appendDigit_endsInDigit {d : Nat} {s a : State} (hd : d ≤ 9) (hn : s.ndig.toNat ≤ 18) (h : appendDigit d s = some a) :
    ∃ dig ndig, a = { s with dig := dig, ndig := ndig } ∧ EndsInDigit d dig ndig := by
  refine ⟨a.dig, a.ndig, appendDigit_frame h, ?_⟩
  obtain ⟨-, h0, e⟩ | ⟨-, -, e⟩ | ⟨-, h18, e⟩ := appendDigit_cases d s <;> rw [e] at h <;> cases h
  · exact ⟨hn, fun i _ hi => by simp [h0] at hi⟩
  · have hlt : (s.ndig + 1).toNat = s.ndig.toNat + 1 := by bv_omega
    refine ⟨by bv_omega, fun i hi hlast => ?_⟩
    obtain rfl : i = s.ndig.toNat := by simp only [hlt] at hlast; omega
    simp [toNat_digitByte hd]

end Sys2Proof.Machine

namespace Sys2Proof.Machine

/-! ### The steps a conversion has left (45_digit_generator.md R114, 47_top_level.md R138) -/

/-- A conversion at the micro-operation of this code, with the registers that bound its length, has at most so many steps left:
R138's 48 from DECOMPOSE, R114's 10, 16 and 10 for the digits and the rounding. The bound 116 on DELTA is what R114's argument needs:
116 * 10^16 exceeds 2^60, so the sixteenth fractional step stops. -/
inductive State.StepsLeft (s : State) : BitVec 4 → Nat → Prop where
  | decompose : StepsLeft s Uop.decompose 48
  | special (not_finite : s.cls ≠ .finite) : StepsLeft s Uop.special 1
  | bounds (f : IsFiniteDec s.f) : StepsLeft s Uop.bounds 47
  | normw (ul : IsBracket s.u s.l) : StepsLeft s Uop.normw 46
  | pinit (ul : IsBracket s.u s.l) : StepsLeft s Uop.pinit 45
  | pwalk (ul : IsBracket s.u s.l) (i r : Nat) (idx : s.idx.toInt = i) (range : i + r ≤ 86) (at_most_two : r ≤ 2)
      (not_above : scaledExp s.u.e.toInt i ≤ Config.windowHi) (reached : Config.windowLo ≤ scaledExp s.u.e.toInt (i + r)) :
      StepsLeft s Uop.pwalk (42 + r)
  | mulw (ul : IsBracket s.u s.l) (power : IsPowerFor s.u s.cp) : StepsLeft s Uop.mulw 41
  | mulu (ul : IsBracket s.u s.l) (power : IsPowerFor s.u s.cp) : StepsLeft s Uop.mulu 40
  | mull (lo : -60 ≤ s.u.e.toInt) (hi : s.u.e.toInt ≤ -32) (gap : mulMant s.l.m.toNat s.cp.m.toNat + 2 ^ 9 ≤ s.u.m.toNat) :
      StepsLeft s Uop.mull 39
  | setup (lo : -60 ≤ s.u.e.toInt) (hi : s.u.e.toInt ≤ -32) (gap : s.l.m.toNat + 2 ^ 9 ≤ s.u.m.toNat) :
      StepsLeft s Uop.setup 38
  | dgint (k : Nat) (kappa : s.kappa.toInt = k) (one_le : 1 ≤ k) (le_ten : k ≤ 10) (p1 : s.p1.toNat < 10 ^ k)
      (fraction : IsFraction s.p2 s.cut) (delta : 116 ≤ s.delta.toNat) (ndig : s.ndig.toNat ≤ 18) : StepsLeft s Uop.dgint (27 + k)
  | dgfrac (m r : Nat) (steps : m + r = 16) (one_le : 1 ≤ r) (fraction : IsFraction s.p2 s.cut)
      (delta : 116 * 10 ^ m ≤ s.delta.toNat) (ndig : s.ndig.toNat ≤ 18) : StepsLeft s Uop.dgfrac (11 + r)
  | round (d : Nat) (le_nine : d ≤ 9) (last : EndsInDigit d s.dig s.ndig) : StepsLeft s Uop.round (2 + d)
  | emit (ndig : s.ndig.toNat ≤ 18) : StepsLeft s Uop.emit 1

/-- The conversion is over, or it goes on and has fewer than `n` steps left. -/
def State.EndsBefore (n : Nat) (t : State) : Prop := t.busy = true → ∃ m < n, t.StepsLeft t.stateCode m

section
variable {s : State}

theorem execDecompose_endsBefore : ∃ t, execDecompose s = .next t ∧ t.EndsBefore 48 := by
  refine ⟨_, rfl, fun _ => ?_⟩
  by_cases hc : classify (bexpOf s.x) (fracOf s.x) = .finite
  · simp only [hc, if_true]
    exact ⟨47, by decide, .bounds (isFiniteDec_extract hc)⟩
  · simp only [if_neg hc]
    exact ⟨1, by decide, .special hc⟩

/-- The walk goes up only, to the entry that is known to reach the window (R93). -/
theorem execPwalk_endsBefore {i r : Nat} (ul : IsBracket s.u s.l) (idx : s.idx.toInt = i) (range : i + r ≤ 86)
    (at_most_two : r ≤ 2) (not_above : scaledExp s.u.e.toInt i ≤ Config.windowHi)
    (reached : Config.windowLo ≤ scaledExp s.u.e.toInt (i + r)) :
    ∃ t, execPwalk s = .next t ∧ t.EndsBefore (42 + r) := by
  simp only [execPwalk, idx, Int.toNat_natCast]
  rw [if_neg (by omega)]
  split_ifs with hlo hhi
  · cases r with
    | zero => exact absurd reached (Int.not_le.mpr hlo)
    | succ r =>
      refine ⟨_, rfl, fun _ => ⟨42 + r, by omega, .pwalk ?_ (i + 1) r ?_ (by omega) (by omega) ?_ ?_⟩⟩
      · exact ul
      · exact toInt_toS8 (by omega) (by omega)
      · have := powEntry_succ i (by omega)
        simp only [scaledExp, Config.windowLo, Config.windowHi] at *
        omega
      · rwa [Nat.add_right_comm, Nat.add_assoc]
  · omega
  · have ⟨h0, h1, _⟩ := ul
    have hpower := isPowerFor_powEntry h0 h1 (by omega) (Int.not_lt.mp hlo) not_above
    exact ⟨_, rfl, fun _ => ⟨41, by omega, .mulw ul hpower⟩⟩

theorem execDgint_endsBefore {k : Nat} (kappa : s.kappa.toInt = k) (one_le : 1 ≤ k) (le_ten : k ≤ 10)
    (p1 : s.p1.toNat < 10 ^ k) (fraction : IsFraction s.p2 s.cut) (delta : 116 ≤ s.delta.toNat) (ndig : s.ndig.toNat ≤ 18) :
    ∃ t, execDgint s = .next t ∧ t.EndsBefore (27 + k) := by
  obtain ⟨j, rfl⟩ : ∃ j, k = j + 1 := ⟨k - 1, by omega⟩
  have htens : tens (s.kappa.toInt - 1) = 10 ^ j := by
    rw [kappa, tens_of_mem (by omega) (by omega)]
    congr 1
    omega
  have hpos : 0 < 10 ^ j := Nat.pow_pos (by decide)
  have hk : (toS32 (s.kappa.toInt - 1)).toInt = j := by rw [toInt_toS32 (by omega) (by omega)]; omega
  have hd : s.p1.toNat / 10 ^ j ≤ 9 := by
    have : s.p1.toNat / 10 ^ j < 10 := Nat.div_lt_of_lt_mul (by rwa [← Nat.pow_succ])
    omega
  have hp1 : (toU64 (s.p1.toNat - (s.p1.toNat / 10 ^ j : Nat) * (10 ^ j : Nat))).toNat < 10 ^ j := by
    have hmod := Nat.mod_lt s.p1.toNat hpos
    have hdm := Nat.div_add_mod' s.p1.toNat (10 ^ j)
    have hle := Nat.mod_le s.p1.toNat (10 ^ j)
    have hlt := s.p1.isLt
    zify at *
    rw [toNat_toU64 (by omega) (by omega)]
    omega
  simp only [execDgint, htens, quot_of_pos _ hpos]
  cases ha : appendDigit (s.p1.toNat / 10 ^ j) s with
  | none => exact ⟨_, rfl, nofun⟩
  | some a =>
    obtain ⟨dig, n, rfl, hlast⟩ := appendDigit_endsInDigit hd ndig ha
    dsimp only
    split_ifs with htmp hk0
    · exact ⟨_, rfl, fun _ => ⟨_, by omega, .round _ hd hlast⟩⟩
    · exact ⟨_, rfl, fun _ => ⟨27, by omega, .dgfrac 0 16 rfl (by decide) fraction delta hlast.ndig_le⟩⟩
    · exact ⟨_, rfl, fun _ => ⟨27 + j, by omega, .dgint j hk (by omega) (by omega) hp1 fraction delta hlast.ndig_le⟩⟩

/-- A step that does not stop has P2 at least the new DELTA, so the tenfold DELTA stays below 2^60 and is held exactly (R113). -/
theorem execDgfrac_endsBefore {m r : Nat} (steps : m + r = 16) (one_le : 1 ≤ r) (fraction : IsFraction s.p2 s.cut)
    (delta : 116 * 10 ^ m ≤ s.delta.toNat) (ndig : s.ndig.toNat ≤ 18) :
    ∃ t, execDgfrac s = .next t ∧ t.EndsBefore (11 + r) := by
  obtain ⟨hcut, hp2⟩ := fraction
  have hd : s.p2.toNat * 10 / 2 ^ s.cut.toNat ≤ 9 := by
    have : s.p2.toNat * 10 / 2 ^ s.cut.toNat < 10 := Nat.div_lt_of_lt_mul (by omega)
    omega
  have hmod := Nat.mod_lt (s.p2.toNat * 10) (Nat.two_pow_pos s.cut.toNat)
  have h60 : 2 ^ s.cut.toNat ≤ 2 ^ 60 := Nat.pow_le_pow_right (by decide) hcut
  simp only [execDgfrac]
  cases ha : appendDigit (s.p2.toNat * 10 / 2 ^ s.cut.toNat) s with
  | none => exact ⟨_, rfl, nofun⟩
  | some a =>
    obtain ⟨dig, n, rfl, hlast⟩ := appendDigit_endsInDigit hd ndig ha
    dsimp only
    split_ifs with hstop
    · exact ⟨_, rfl, fun _ => ⟨_, by omega, .round _ hd hlast⟩⟩
    · have hdelta := toNat_toU64_natCast (v := s.delta.toNat * 10) (by omega)
      have hp2' := toNat_toU64_natCast (v := s.p2.toNat * 10 % 2 ^ s.cut.toNat) (by omega)
      have hnext : 116 * 10 ^ (m + 1) ≤ s.delta.toNat * 10 := by rw [Nat.pow_succ]; omega
      have hm : m + 1 < 16 := by
        by_contra hge
        obtain rfl : m = 15 := by omega
        omega
      obtain ⟨q, rfl⟩ : ∃ q, r = q + 1 := ⟨r - 1, by omega⟩
      have hfraction : IsFraction (toU64 (s.p2.toNat * 10 % 2 ^ s.cut.toNat : Nat)) s.cut := ⟨hcut, hp2'.symm ▸ hmod⟩
      exact ⟨_, rfl, fun _ => ⟨11 + q, by omega, .dgfrac (m + 1) q (by omega) (by omega) hfraction (hdelta.symm ▸ hnext) hlast.ndig_le⟩⟩

/-- Each decrement lowers the last digit, and at '0' the step faults (R110). -/
theorem execRound_endsBefore {d : Nat} (le_nine : d ≤ 9) (last : EndsInDigit d s.dig s.ndig) :
    ∃ t, execRound s = .next t ∧ t.EndsBefore (2 + d) := by
  obtain ⟨hn, hlast⟩ := last
  simp only [execRound]
  split_ifs with h0 hdown hzero
  · exact ⟨_, rfl, nofun⟩
  · exact ⟨_, rfl, nofun⟩
  · have hlt : s.ndig.toNat - 1 < 18 := by omega
    have hsucc : s.ndig.toNat - 1 + 1 = s.ndig.toNat := by bv_omega
    have hdig := hlast _ hlt hsucc
    rw [digAt_of_lt s hlt] at hzero ⊢
    obtain ⟨q, rfl⟩ : ∃ q, d = q + 1 := ⟨d - 1, by bv_omega⟩
    refine ⟨_, rfl, fun _ => ⟨2 + q, by omega, .round q (by omega) ⟨hn, fun i hi hl => ?_⟩⟩⟩
    obtain rfl : i = s.ndig.toNat - 1 := by simp only [writeDig_ndig] at hl; omega
    simp only [writeDig_dig, Vector.getElem_setIfInBounds_self]
    bv_omega
  · exact ⟨_, rfl, fun _ => ⟨1, by omega, .emit hn⟩⟩

theorem execEmit_endsBefore : ∃ t, execEmit s = .next t ∧ t.busy = false := by
  simp only [execEmit]
  split_ifs <;> exact ⟨_, rfl, rfl⟩

end

/-- The micro-operation of STATE's code completes, and a step less is left. -/
theorem State.StepsLeft.exec {s : State} {c : BitVec 4} {n : Nat} (h : s.StepsLeft c n) :
    ∃ t, exec (decode (.uop c)) s = .next t ∧ t.EndsBefore n := by
  cases h with
  | decompose => exact execDecompose_endsBefore
  | special => exact ⟨_, rfl, nofun⟩
  | bounds f => exact ⟨_, rfl, fun _ => ⟨46, by decide, .normw (isBracket_of_isFiniteDec f)⟩⟩
  | normw ul => exact ⟨_, rfl, fun _ => ⟨45, by decide, .pinit ul⟩⟩
  | pinit ul =>
    have ⟨h0, h1, _⟩ := ul
    obtain ⟨i, hi, hrange, habove, hreach⟩ := initialIndex_near h0 h1
    refine ⟨_, rfl, fun _ => ⟨44, by decide, .pwalk ?_ i 2 ?_ hrange (by decide) habove hreach⟩⟩
    · exact ul
    · simp only [hi]
      exact toInt_toS8 (by omega) (by omega)
  | pwalk ul i r idx range at_most_two not_above reached => exact execPwalk_endsBefore ul idx range at_most_two not_above reached
  | mulw ul power => exact ⟨_, rfl, fun _ => ⟨40, by decide, .mulu ul power⟩⟩
  | mulu ul power =>
    have ⟨_, _, hgap⟩ := ul
    obtain ⟨hm, hlo, hhi⟩ := power
    refine ⟨_, rfl, fun _ => ⟨39, by decide, .mull hlo hhi ?_⟩⟩
    simp only [toNat_mul_m]
    exact mulMant_gap hgap hm
  | mull lo hi gap =>
    refine ⟨_, rfl, fun _ => ⟨38, by decide, .setup lo hi ?_⟩⟩
    simpa only [toNat_mul_m] using gap
  | setup lo hi gap =>
    obtain ⟨hfraction, hp1, hdelta⟩ := setup_parts lo hi gap
    exact ⟨_, rfl, fun _ => ⟨37, by decide, .dgint 10 rfl (by decide) (by decide) hp1 hfraction hdelta (Nat.zero_le _)⟩⟩
  | dgint k kappa one_le le_ten p1 fraction delta ndig => exact execDgint_endsBefore kappa one_le le_ten p1 fraction delta ndig
  | dgfrac m r steps one_le fraction delta ndig => exact execDgfrac_endsBefore steps one_le fraction delta ndig
  | round d le_nine last => exact execRound_endsBefore le_nine last
  | emit =>
    obtain ⟨t, ht, hb⟩ := execEmit_endsBefore (s := s)
    exact ⟨t, ht, by simp [State.EndsBefore, hb]⟩

end Sys2Proof.Machine

namespace Sys2Proof.Machine

/-! ### A conversion and the model's counter

The counter moves with every event, so two runs of one conversion differ in it; a conversion on its way reads no free value. -/

/-- `s` with another value of the model's counter. -/
def State.withTick (k : Nat) (s : State) : State := { s with tick := k }

section
variable {s : State} (k : Nat)

theorem digAt_withTick {i : Nat} (h : i < 18) : digAt (s.withTick k) i = digAt s i := by
  rw [digAt_of_lt _ h, digAt_of_lt _ h]
  rfl

theorem digits_withTick {n : Nat} (h : n ≤ 18) : digits (s.withTick k) n = digits s n :=
  List.map_congr_left fun _ hi => digAt_withTick k (by have := List.mem_range.mp hi; omega)

theorem appendDigit_withTick (d : Nat) : appendDigit d (s.withTick k) = (appendDigit d s).map (State.withTick k) := by
  simp only [appendDigit, apply_ite (Option.map (State.withTick k))]
  rfl

theorem execSpecial_withTick (h : s.cls ≠ .finite) :
    execSpecial (s.withTick k) = mapNext (State.withTick k) (execSpecial s) := by
  have htext (free free' : List Byte) : specialText s.cls s.neg free = specialText s.cls s.neg free' := by
    cases hc : s.cls with
    | finite => exact absurd hc h
    | zero | infinite | nan => rfl
  simp only [execSpecial, State.withTick, htext _ []]
  rfl

theorem execPwalk_withTick : execPwalk (s.withTick k) = mapNext (State.withTick k) (execPwalk s) := by
  simp only [execPwalk, apply_ite (mapNext _)]
  rfl

theorem execDgint_withTick : execDgint (s.withTick k) = mapNext (State.withTick k) (execDgint s) := by
  simp only [execDgint, appendDigit_withTick]
  dsimp only [State.withTick]
  cases appendDigit (quot s.p1.toNat (tens (s.kappa.toInt - 1))) s with
  | none => rfl
  | some a =>
    simp only [apply_ite (mapNext _)]
    rfl

theorem execDgfrac_withTick : execDgfrac (s.withTick k) = mapNext (State.withTick k) (execDgfrac s) := by
  simp only [execDgfrac, appendDigit_withTick]
  dsimp only [State.withTick]
  cases appendDigit (s.p2.toNat * 10 / 2 ^ s.cut.toNat) s with
  | none => rfl
  | some a =>
    simp only [apply_ite (mapNext _)]
    rfl

theorem execRound_withTick (h : s.ndig.toNat ≤ 18) : execRound (s.withTick k) = mapNext (State.withTick k) (execRound s) := by
  have hlast : digAt (s.withTick k) ((s.withTick k).ndig.toNat - 1) = digAt s (s.ndig.toNat - 1) :=
    digAt_withTick k (i := s.ndig.toNat - 1) (by omega)
  simp only [execRound, hlast, apply_ite (mapNext _)]
  rfl

theorem execEmit_withTick (h : s.ndig.toNat ≤ 18) : execEmit (s.withTick k) = mapNext (State.withTick k) (execEmit s) := by
  have hdigits : digits (s.withTick k) (s.withTick k).ndig.toNat = digits s s.ndig.toNat := digits_withTick k h
  simp only [execEmit, hdigits, apply_ite (mapNext _)]
  rfl

/-- A micro-operation of a conversion on its way answers the same whatever the counter (log 12). -/
theorem State.StepsLeft.exec_withTick {c : BitVec 4} {n : Nat} (h : s.StepsLeft c n) :
    Machine.exec (decode (.uop c)) (s.withTick k) = mapNext (State.withTick k) (Machine.exec (decode (.uop c)) s) := by
  cases h with
  | special not_finite => exact execSpecial_withTick k not_finite
  | pwalk => exact execPwalk_withTick k
  | dgint => exact execDgint_withTick k
  | dgfrac => exact execDgfrac_withTick k
  | round d le_nine last => exact execRound_withTick k last.ndig_le
  | emit ndig => exact execEmit_withTick k ndig
  | _ => rfl

end

/-! ### A conversion and the host -/

/-- `t` is `s` but for IN, CMD_ERR and the model's own fields: what the host and its events change (20_memory.md R56). -/
def State.SameButHost (s t : State) : Prop :=
  t = { s with inReg := t.inReg, cmdErr := t.cmdErr, readData := t.readData, pending := t.pending, tick := t.tick }

theorem State.SameButHost.eq {s t : State} (h : s.SameButHost t) :
    t = (s.withTraffic t.inReg t.cmdErr t.readData t.pending).withTick t.tick := h

theorem State.StepsLeft.of_sameButHost {s t : State} {c : BitVec 4} {n : Nat} (h : s.StepsLeft c n) (hst : s.SameButHost t) :
    t.StepsLeft c n := by
  rw [hst]
  cases h <;> constructor <;> assumption

/-- The micro-operation of a conversion on its way does the same in both states. -/
theorem State.StepsLeft.exec_sameButHost {s s' t : State} {c : BitVec 4} {n : Nat} (h : s.StepsLeft c n)
    (hss : s.SameButHost s') (hs : Machine.exec (decode (.uop c)) s = .next t) :
    ∃ t', Machine.exec (decode (.uop c)) s' = .next t' ∧ t.SameButHost t' := by
  have htraffic := exec_uop_withTraffic s'.inReg s'.cmdErr s'.readData s'.pending s c
  have hw : (s.withTraffic s'.inReg s'.cmdErr s'.readData s'.pending).StepsLeft c n := h.of_sameButHost rfl
  have htick := hw.exec_withTick s'.tick
  rw [← hss.eq, htraffic, hs] at htick
  exact ⟨_, htick, rfl⟩

/-- While a conversion runs, a form of the host leaves it as it is: a CONVERT is rejected (47_top_level.md R130). -/
theorem exec_host_sameButHost {e : Enc} {s t : State} (he : e.format ≠ .uop) (hb : s.busy = true)
    (h : exec (decode e) s = .next t) : s.SameButHost t := by
  obtain eq | ⟨hidle, -⟩ := exec_host_cases (format_encode_decode e ▸ he) h
  · rw [eq]
    exact rfl
  · rw [hb] at hidle
    cases hidle

theorem State.SameButHost.trans {s t u : State} (h : s.SameButHost t) (h' : t.SameButHost u) : s.SameButHost u := by
  rw [State.SameButHost] at h' ⊢
  rw [h'.trans (by rw [h])]

theorem State.SameButHost.advance {s t : State} (h : s.SameButHost t) : s.SameButHost (advance t) :=
  h.trans rfl

/-! ### The events while a conversion runs -/

theorem remaining_sublist : ∀ p : List Event, (remaining p).Sublist p
  | [] => .slnil
  | e :: rest => by
    rw [remaining]
    split
    · exact List.eraseP_sublist.cons_cons e
    · exact List.sublist_cons_self e rest

/-- The form with which an event of the host acts, where the port admits it (20_memory.md R49, log 15). -/
theorem exists_form_of_host {s : State} {e : Event} (h : nextEvent s = e) (hs : e.sticksHost = false) (hh : e.isHost = true) :
    ∃ enc, fetch s = .form enc ∧ enc.format ≠ .uop ∧ isAdmittedForm (decode enc) = true := by
  cases e with
  | access bits code data =>
    obtain ⟨rfl, haln⟩ : bits = 64 ∧ code.extractLsb' 0 3 = 0 := by
      simpa [Bool.eq_false_iff, sticksHost_access, not_or] using hs
    exact ⟨.hacc code data, fetch_of_access h, nofun, (isAdmittedForm_decode_hacc code data).mpr haln⟩
  | command word =>
    refine ⟨.cmd word, by simp [fetch, h], nofun, ?_⟩
    simp only [decode, decodeCmd, apply_ite isAdmittedForm]
    simp [isAdmittedForm]
  | turn | reset => cases hh

/-- While a conversion runs and no reset is pending, the sequencer has the turn or the oldest event is a form of the host
(70_reset_and_hazards.md R171). -/
theorem fetch_running {s : State} (hc : s.stateCode ≠ Uop.idle) (hr : Event.reset ∉ s.pending) :
    fetch s = .form (.uop s.stateCode) ∨
    ∃ e rest enc, s.pending = e :: rest ∧ remaining s.pending = rest ∧ fetch s = .form enc ∧ enc.format ≠ .uop ∧
      isAdmittedForm (decode enc) = true := by
  have turn (h : nextEvent s = .turn) : fetch s = .form (.uop s.stateCode) := by simp [fetch, h]
  cases hp : s.pending with
  | nil => exact .inl (turn (nextEvent_of_nil hp))
  | cons e rest =>
    rw [hp] at hr
    cases hs : e.sticksHost with
    | true =>
      refine .inl (turn ?_)
      cases hf : rest.find? (!·.isHost) with
      | none => exact nextEvent_of_stuck hp hs (by simpa using hf) hc
      | some e' =>
        have hn : nextEvent s = e' := by simp [nextEvent, hp, hs, hf]
        have hmem := List.mem_of_find?_eq_some hf
        have hhost := List.find?_some hf
        cases e' with
        | access | command => cases hhost
        | turn => exact hn
        | reset => exact absurd (List.mem_cons_of_mem _ hmem) hr
    | false =>
      have hn := nextEvent_of_cons hp hs
      cases hh : e.isHost with
      | true =>
        obtain ⟨enc, hf, hfmt, ha⟩ := exists_form_of_host hn hs hh
        exact .inr ⟨e, rest, enc, rfl, remaining_of_cons rest hs, hf, hfmt, ha⟩
      | false =>
        cases e with
        | access | command => cases hh
        | turn => exact .inl (turn hn)
        | reset => exact absurd (List.mem_cons_self ..) hr

/-! ### The two runs -/

theorem State.StepsLeft.pos {s : State} {c : BitVec 4} {n : Nat} (h : s.StepsLeft c n) : 0 < n := by
  cases h <;> omega

theorem State.StepsLeft.ne_idle {s : State} {c : BitVec 4} {n : Nat} (h : s.StepsLeft c n) : c ≠ Uop.idle := by
  cases h <;> decide

theorem run_succ_of_step {M : Host.Core} {s u : M.State} (h : M.step s = .next u) (k : Nat) : M.run (k + 1) s = M.run k u := by
  simp only [Host.Core.run, h]

theorem runSteps_succ_of_step {s u : State} (h : step s = .next u) (k : Nat) : runSteps (k + 1) s = runSteps k u :=
  run_succ_of_step (M := core) h k

/-- A run of a conversion on its way, undisturbed, and one of it among the host's events: both end, in the same state but for
what is the host's, the second at most one step later for each event. -/
theorem runs_end_alike {s s' : State} {n : Nat} (hb : s.busy = true) (hleft : s.StepsLeft s.stateCode n) (hp : s.pending = [])
    (hss : s.SameButHost s') (hr : Event.reset ∉ s'.pending) :
    ∃ j k, j ≤ n ∧ k ≤ n + s'.pending.length ∧ ∃ u t,
      runSteps j s = .next u ∧ u.busy = false ∧ runSteps k s' = .next t ∧ u.SameButHost t := by
  induction hN : n + s'.pending.length using Nat.strong_induction_on generalizing s s' n with
  | _ N ih =>
  subst hN
  have hcode : s'.stateCode = s.stateCode := by rw [hss]
  have hb' : s'.busy = true := by rw [hss]; exact hb
  obtain hf | ⟨e, rest, enc, hcons, hrem, hf, hfmt, ha⟩ := fetch_running (hcode ▸ hleft.ne_idle) hr
  · have hadvance : (advance s).SameButHost (advance s') := State.SameButHost.trans (t := s) rfl hss.advance
    have hleft1 : (advance s).StepsLeft s.stateCode n := hleft.of_sameButHost rfl
    obtain ⟨s1, hs1, hends⟩ := hleft1.exec
    obtain ⟨s1', hs1', hss1⟩ := hleft1.exec_sameButHost hadvance hs1
    have hstep : step s = .next s1 := (step_of_pending_nil hp).trans hs1
    have hstep' : step s' = .next s1' := (step_of_form hf).trans (hcode ▸ hs1')
    have hp1 : s1'.pending = remaining s'.pending := exec_pending hs1'
    have hsub : s1'.pending.Sublist s'.pending := hp1 ▸ remaining_sublist _
    have hlen := hsub.length_le
    cases hb1 : s1.busy with
    | false =>
      have hpos := hleft.pos
      exact ⟨1, 1, hpos, by omega, s1, s1', runSteps_succ_of_step hstep 0, hb1, runSteps_succ_of_step hstep' 0, hss1⟩
    | true =>
      obtain ⟨m, hm, hleft2⟩ := hends hb1
      obtain ⟨j, k, hj, hk, u, t, hu, hub, ht, hut⟩ := ih (m + s1'.pending.length) (by omega) hb1 hleft2
        (pending_nil_of_step hp hstep) hss1 (fun h => hr (hsub.subset h)) rfl
      exact ⟨j + 1, k + 1, by omega, by omega, u, t, (runSteps_succ_of_step hstep j).trans hu, hub,
        (runSteps_succ_of_step hstep' k).trans ht, hut⟩
  · obtain ⟨s1', hs1'⟩ := exists_exec_host hfmt ha (advance s')
    have hss1 := hss.advance.trans (exec_host_sameButHost hfmt hb' hs1')
    have hp1 : s1'.pending = rest := by rw [exec_pending hs1', advance_pending, hrem]
    have hlen : s'.pending.length = s1'.pending.length + 1 := by rw [hcons, hp1, List.length_cons]
    obtain ⟨j, k, hj, hk, u, t, hu, hub, ht, hut⟩ := ih _ (by omega) hb hleft hp hss1
      (by rw [hp1]; rw [hcons] at hr; exact fun h => hr (List.mem_cons_of_mem _ h)) rfl
    refine ⟨j, k + 1, hj, by omega, u, t, hu, hub, ?_, hut⟩
    rw [runSteps_succ_of_step ((step_of_form hf).trans hs1')]
    exact ht

/-- Settles O58: from its acceptance a conversion has at most 48 steps left, and an event either leaves it or is its next step. -/
theorem conversionEndsAlikeWhateverTheHostDoes : Obligations.ConversionEndsAlikeWhateverTheHostDoes := by
  intro s p hs hreset
  have hleft : s.StepsLeft s.stateCode 48 := hs.at_decompose ▸ .decompose
  obtain ⟨j, k, hj, hk, u, t, hu, hub, ht, hut⟩ :=
    runs_end_alike (s' := { s with pending := p }) hs.busy_set hleft hs.pending_empty rfl hreset
  exact ⟨j, k, hj, hk, t, u, hu, hub, ht, hut⟩

end Sys2Proof.Machine

namespace Sys2Proof

/-! ### Decoding an encoding -/

/-- `i` with another value as its DATA, where it is a host access that has one (30_encoding.md R64). -/
def Instr.withData (data : U64) : Instr → Instr
  | .wrIn _ => .wrIn data
  | .wrCmd _ => .wrCmd data
  | .wrIgnored110 reg _ => .wrIgnored110 reg data
  | .wrIgnored120 reg _ => .wrIgnored120 reg data
  | .wrIgnored140 reg _ => .wrIgnored140 reg data
  | .wrIgnored180 reg _ => .wrIgnored180 reg data
  | .notAdmitted1 hi _ => .notAdmitted1 hi data
  | .notAdmitted2 hi _ => .notAdmitted2 hi data
  | .notAdmitted4 hi _ => .notAdmitted4 hi data
  | i => i

/-- The access code alone chooses the operation; DATA is carried and never tested (R65). -/
theorem withData_decodeHacc (code : BitVec 9) (data data' : U64) :
    (decodeHacc code data).withData data' = decodeHacc code data' := by
  simp only [decodeHacc, apply_ite (Instr.withData data')]
  rfl

/-- So an access that decodes back with one DATA does so with every DATA. -/
theorem decode_encode_withData {i : Instr} (h : decode (encode i) = i) (data : U64) :
    decode (encode (i.withData data)) = i.withData data := by
  cases i with
  | wrIn | wrCmd => rfl
  | wrIgnored110 | wrIgnored120 | wrIgnored140 | wrIgnored180 | notAdmitted1 | notAdmitted2 | notAdmitted4 =>
    exact (withData_decodeHacc _ _ data).symm.trans (congrArg (Instr.withData data) h)
  | _ => exact h

/-- Every operand that is a part of the access code is read back, here with DATA = 0. -/
theorem decode_encode_operands :
    (∀ reg, decode (encode (.rdUnmapped60 reg)) = .rdUnmapped60 reg) ∧
    (∀ reg, decode (encode (.rdUnmapped80 reg)) = .rdUnmapped80 reg) ∧
    (∀ reg, decode (encode (.wrIgnored110 reg 0)) = .wrIgnored110 reg 0) ∧
    (∀ reg, decode (encode (.wrIgnored120 reg 0)) = .wrIgnored120 reg 0) ∧
    (∀ reg, decode (encode (.wrIgnored140 reg 0)) = .wrIgnored140 reg 0) ∧
    (∀ reg, decode (encode (.wrIgnored180 reg 0)) = .wrIgnored180 reg 0) ∧
    (∀ hi, decode (encode (.notAdmitted1 hi 0)) = .notAdmitted1 hi 0) ∧
    (∀ hi, decode (encode (.notAdmitted2 hi 0)) = .notAdmitted2 hi 0) ∧
    (∀ hi, decode (encode (.notAdmitted4 hi 0)) = .notAdmitted4 hi 0) := by
  decide

/-- Decoding an encoding gives the instruction back with every operand. -/
theorem decode_encode {i : Instr} (h : i.wellFormed = true) : decode (encode i) = i := by
  obtain ⟨h60, h80, h110, h120, h140, h180, h1, h2, h4⟩ := decode_encode_operands
  cases i with
  | rdUnmapped60 reg => exact h60 reg
  | rdUnmapped80 reg => exact h80 reg
  | wrIgnored110 reg data => exact decode_encode_withData (h110 reg) data
  | wrIgnored120 reg data => exact decode_encode_withData (h120 reg) data
  | wrIgnored140 reg data => exact decode_encode_withData (h140 reg) data
  | wrIgnored180 reg data => exact decode_encode_withData (h180 reg) data
  | notAdmitted1 hi data => exact decode_encode_withData (h1 hi) data
  | notAdmitted2 hi data => exact decode_encode_withData (h2 hi) data
  | notAdmitted4 hi data => exact decode_encode_withData (h4 hi) data
  | reservedCmd word =>
    obtain ⟨h0, h1⟩ : word ≠ 0 ∧ word ≠ 1 := by simpa [Instr.wellFormed] using h
    simp only [encode, decode, decodeCmd, if_neg h0, if_neg h1]
  | _ => rfl

/-! ### Bytes (log 13) -/

@[simp] theorem length_leBytes (n w : Nat) : (leBytes n w).length = n := by
  induction n generalizing w with
  | zero => rfl
  | succ n ih => rw [leBytes, List.length_cons, ih]

/-- `n` bytes hold every number below 256^n. -/
theorem ofLeBytes_leBytes {n w : Nat} (h : w < 256 ^ n) : ofLeBytes (leBytes n w) = w := by
  induction n generalizing w with
  | zero => simp only [leBytes, ofLeBytes]; omega
  | succ n ih =>
    have hdiv : w / 256 < 256 ^ n := by omega
    rw [leBytes, ofLeBytes, ih hdiv, BitVec.toNat_ofNat]
    omega

/-- `n` bytes hold every word of at most 8n bits. -/
theorem ofLeBytes_leBytes_toNat {n k : Nat} (b : BitVec k) (h : k ≤ 8 * n) : ofLeBytes (leBytes n b.toNat) = b.toNat := by
  refine ofLeBytes_leBytes (b.isLt.trans_le ?_)
  calc 2 ^ k
    _ ≤ 2 ^ (8 * n) := Nat.pow_le_pow_right (by decide) h
    _ = 256 ^ n := Nat.pow_mul 2 8 n

/-- The bytes of a form hold that form: the lengths agree, and no bit above the format's width is set. -/
theorem Enc.ofBytes_toBytes (e : Enc) : Enc.ofBytes e.format e.toBytes = .ok e := by
  cases e with
  | hacc code data =>
    simp [Enc.ofBytes, Enc.format, Enc.toBytes, Format.length, ofLeBytes_leBytes_toNat, code.isLt.not_ge]
  | cmd word =>
    simp [Enc.ofBytes, Enc.format, Enc.toBytes, Format.length, ofLeBytes_leBytes_toNat]
  | uop code =>
    simp [Enc.ofBytes, Enc.format, Enc.toBytes, Format.length, ofLeBytes_leBytes_toNat, code.isLt.not_ge]

/-- Settles O2: the bytes hold the encoded form, and the form decodes back. -/
theorem encodeThenDecode : Obligations.EncodeThenDecode := by
  intro i h
  have hi : decode (encode i) = i := decode_encode h
  refine ⟨hi, ?_⟩
  simp only [decodeBytes, Enc.ofBytes_toBytes, hi]

/-! ### Encoding what was decoded -/

/-- The rows of R65 by ALN: xx1, x10, 100 and 000. -/
theorem hacc_code_cases (code : BitVec 9) :
    (∃ hi : BitVec 8, code = hi ++ 1#1) ∨ (∃ hi : BitVec 7, code = hi ++ 0b10#2) ∨ (∃ hi : BitVec 6, code = hi ++ 0b100#3) ∨
    ∃ (write : BitVec 1) (reg : BitVec 5), code = haccCode write reg := by
  have haln : ∀ aln : BitVec 3, (∃ mid : BitVec 2, aln = mid ++ 1#1) ∨ (∃ mid : BitVec 1, aln = mid ++ 0b10#2) ∨
      aln = 0b100#3 ∨ aln = 0#3 := by decide
  have hcode : code = code.extractLsb' 3 6 ++ code.extractLsb' 0 3 :=
    (BitVec.extractLsb'_append_extractLsb' (w := 6) (len := 3)).symm
  have hhi : code.extractLsb' 3 6 = code.extractLsb' 8 1 ++ code.extractLsb' 3 5 :=
    (BitVec.extractLsb'_append_extractLsb'_eq_extractLsb' (len₁ := 5) (len₂ := 1) rfl).symm
  obtain ⟨mid, e⟩ | ⟨mid, e⟩ | e | e := haln (code.extractLsb' 0 3) <;> rw [e] at hcode
  · exact .inl ⟨code.extractLsb' 3 6 ++ mid, hcode.trans (BitVec.append_assoc (x₂ := mid) (x₃ := 1#1)).symm⟩
  · exact .inr (.inl ⟨code.extractLsb' 3 6 ++ mid, hcode.trans (BitVec.append_assoc (x₂ := mid) (x₃ := 0b10#2)).symm⟩)
  · exact .inr (.inr (.inl ⟨_, hcode⟩))
  · exact .inr (.inr (.inr ⟨_, _, hcode.trans (congrArg (· ++ 0#3) hhi)⟩))

/-- The rows of the writes by REG (R65). -/
theorem write_reg_cases : ∀ reg : BitVec 5,
    reg = 0 ∨ reg = 1 ∨ (∃ lo : BitVec 1, reg = 0b0001#4 ++ lo) ∨ (∃ lo : BitVec 2, reg = 0b001#3 ++ lo) ∨
    (∃ lo : BitVec 3, reg = 0b01#2 ++ lo) ∨ ∃ lo : BitVec 4, reg = 1#1 ++ lo := by
  decide

/-- Every write is the encoding of a row. -/
theorem exists_encode_write (reg : BitVec 5) (data : U64) :
    ∃ i : Instr, i.wellFormed = true ∧ encode i = .hacc (haccCode 1#1 reg) data := by
  obtain rfl | rfl | ⟨lo, rfl⟩ | ⟨lo, rfl⟩ | ⟨lo, rfl⟩ | ⟨lo, rfl⟩ := write_reg_cases reg
  · exact ⟨.wrIn data, rfl, rfl⟩
  · exact ⟨.wrCmd data, rfl, rfl⟩
  · exact ⟨.wrIgnored110 lo data, rfl, rfl⟩
  · exact ⟨.wrIgnored120 lo data, rfl, rfl⟩
  · exact ⟨.wrIgnored140 lo data, rfl, rfl⟩
  · exact ⟨.wrIgnored180 lo data, rfl, rfl⟩

/-- What encodes a well-formed instruction is encoded again after decoding. -/
theorem encode_decode_of_encode {i : Instr} {e : Enc} (hi : i.wellFormed = true) (h : encode i = e) :
    encode (decode e) = e := by
  rw [← h, decode_encode hi]

/-- A read has no DATA of its own. -/
theorem withData_of_read {i : Instr} (hw : Machine.isWriteForm i = false) (ha : Machine.isAdmittedForm i = true) (data : U64) :
    i.withData data = i := by
  cases i with
  | wrIn | wrCmd | wrIgnored110 | wrIgnored120 | wrIgnored140 | wrIgnored180 => cases hw
  | notAdmitted1 | notAdmitted2 | notAdmitted4 => cases ha
  | _ => rfl

/-- The code of a read has W = 0 and ALN = 000 (R64). -/
theorem haccCode_read : ∀ reg : BitVec 5,
    (haccCode 0#1 reg).getLsbD 8 = false ∧ (haccCode 0#1 reg).extractLsb' 0 3 = 0 := by
  decide

/-- A read keeps its code and drops the DATA sent with it (R64). -/
theorem encode_decode_read (reg : BitVec 5) (data : U64) :
    encode (decode (.hacc (haccCode 0#1 reg) data)) = .hacc (haccCode 0#1 reg) 0 := by
  obtain ⟨hw, ha⟩ := haccCode_read reg
  have hdata : decodeHacc (haccCode 0#1 reg) data = decodeHacc (haccCode 0#1 reg) 0 := by
    rw [← withData_decodeHacc _ 0 data]
    exact withData_of_read (Machine.isWriteForm_decode_of_read hw 0) ((Machine.isAdmittedForm_decode_hacc _ 0).mpr ha) data
  have hreg : ∀ reg : BitVec 5, encode (decodeHacc (haccCode 0#1 reg) 0) = .hacc (haccCode 0#1 reg) 0 := by decide
  rw [decode, hdata, hreg]

/-- Every access keeps its code, and its DATA unless it is a read. -/
theorem encode_decode_hacc (code : BitVec 9) (data : U64) :
    ∃ data', encode (decode (.hacc code data)) = .hacc code data' ∧
      (code.getLsbD 8 = true ∨ code.extractLsb' 0 3 ≠ 0 → data' = data) := by
  obtain ⟨hi, rfl⟩ | ⟨hi, rfl⟩ | ⟨hi, rfl⟩ | ⟨write, reg, rfl⟩ := hacc_code_cases code
  · exact ⟨data, encode_decode_of_encode (i := .notAdmitted1 hi data) rfl rfl, fun _ => rfl⟩
  · exact ⟨data, encode_decode_of_encode (i := .notAdmitted2 hi data) rfl rfl, fun _ => rfl⟩
  · exact ⟨data, encode_decode_of_encode (i := .notAdmitted4 hi data) rfl rfl, fun _ => rfl⟩
  · obtain rfl | rfl := BitVec.eq_zero_or_eq_one write
    · obtain ⟨hw, ha⟩ := haccCode_read reg
      exact ⟨0, encode_decode_read reg data, fun h => h.elim (fun h8 => nomatch hw.symm.trans h8) (absurd ha)⟩
    · obtain ⟨i, hi, he⟩ := exists_encode_write reg data
      exact ⟨data, encode_decode_of_encode hi he, fun _ => rfl⟩

theorem encode_decode_cmd (word : U64) : encode (decode (.cmd word)) = .cmd word := by
  simp only [decode, decodeCmd]
  split_ifs with h0 h1
  · rw [h0]; rfl
  · rw [h1]; rfl
  · rfl

theorem encode_decode_uop : ∀ code : BitVec 4, encode (decode (.uop code)) = .uop code := by
  decide

/-- A word that decodes to a reserved command is neither of the two that R68 gives a meaning. -/
theorem wellFormed_decode (e : Enc) : (decode e).wellFormed = true := by
  cases e with
  | hacc code data =>
    simp only [decode, decodeHacc, apply_ite Instr.wellFormed]
    simp [Instr.wellFormed]
  | cmd word =>
    simp only [decode, decodeCmd]
    split_ifs with h0 h1
    · rfl
    · rfl
    · simpa [Instr.wellFormed] using ⟨h0, h1⟩
  | uop code =>
    simp only [decode, decodeUop]
    split <;> rfl

/-- Settles O3: every access code is that of a row, and every command word and STATE code is kept. -/
theorem decodeThenEncode : Obligations.DecodeThenEncode := by
  intro e
  refine ⟨wellFormed_decode e, ?_⟩
  cases e with
  | hacc code data => exact encode_decode_hacc code data
  | cmd word => exact encode_decode_cmd word
  | uop code => exact encode_decode_uop code

/-! ### Words written out -/

/-- Settles O1: the decoder evaluates on each code; the DATA of a write is carried. -/
theorem writtenWordsDecode : Obligations.WrittenWordsDecode :=
  ⟨rfl, fun _ => rfl, fun _ => rfl, rfl, rfl, rfl, fun _ => rfl, rfl, rfl, rfl, rfl, rfl, rfl⟩

end Sys2Proof

namespace Sys2Proof.Machine

/-! ### The reserved STATE code (30_encoding.md R71) -/

/-- Every micro-operation is what its STATE code decodes to (R70). -/
theorem exists_decode_of_format {i : Instr} (h : (encode i).format = .uop) : ∃ c, i = decode (.uop c) := by
  have hwf : i.wellFormed = true := by
    cases i with
    | reservedCmd => cases h
    | _ => rfl
  cases he : encode i with
  | uop c => exact ⟨c, by rw [← he, decode_encode hwf]⟩
  | hacc | cmd => rw [he] at h; cases h

/-- A micro-operation goes on to another one or ends in IDLE. -/
theorem UopEffect.stateCode_ne_reserved {s t : State} (h : UopEffect s t) : t.stateCode ≠ 0xF := by
  cases h with
  | continues _ _ _ _ running =>
    obtain ⟨-, hreserved⟩ := running
    exact hreserved
  | faults c eq => subst eq; simp
  | completes a eq => subst eq; simp

/-- IDLE and the host's forms leave STATE or accept a conversion. -/
theorem stateCode_ne_reserved_of_exec {i : Instr} {s t : State} (h : exec i s = .next t) (hs : s.stateCode ≠ 0xF) :
    t.stateCode ≠ 0xF := by
  by_cases hi : (encode i).format = .uop
  · obtain ⟨c, rfl⟩ := exists_decode_of_format hi
    by_cases hc : c = Uop.idle
    · subst hc
      cases h
      exact hs
    · exact (exec_uop_effect hc h).stateCode_ne_reserved
  · obtain eq | ⟨-, -, eq⟩ := exec_host_cases hi h
    · rw [eq]; exact hs
    · rw [eq]; simp

/-- Settles O7: the reserved code decodes to the one micro-operation with no step, and no instruction brings STATE to it. -/
theorem reservedStateCodeHasNoStep : Obligations.ReservedStateCodeHasNoStep :=
  ⟨rfl, fun _ => rfl, fun _ _ _ => stateCode_ne_reserved_of_exec⟩

/-! ### The pseudo-instructions (R73) -/

/-- BUSY is bit 0 of STATUS, which is the mask of the poll (10_state.md R21). -/
theorem pollEnds_busy_iff {s t : State} (h : exec .rdStatus s = .next t) : pollEnds 0x1 0x0 t = true ↔ s.busy = false := by
  obtain ⟨hbusy, -⟩ := statusWord_fields s
  cases h
  have hmask : statusWord s &&& 1 = (BitVec.ofBool s.busy).setWidth 64 :=
    hbusy ▸ BitVec.and_one_eq_setWidth_ofBool_getLsbD
  simp only [pollEnds, returnData_readData, hmask]
  cases s.busy <;> decide

/-- Settles O55: the lines and their accesses are evaluated, and the poll tests BUSY. -/
theorem pseudoInstructionsExpand : Obligations.PseudoInstructionsExpand :=
  ⟨rfl, rfl, rfl, fun _ => rfl, rfl, rfl, rfl, fun _ => rfl, fun _ _ => pollEnds_busy_iff, rfl⟩

end Sys2Proof.Machine

namespace Sys2Proof.Machine

/-! ### DECOMPOSE, class by class (41_decomposer.md R76 to R80) -/

section
variable {bexp frac m : Nat}

theorem classify_of_zero (hb : bexp = 0) (hf : frac = 0) : classify bexp frac = .zero := by
  rw [classify, if_pos hb, if_pos hf]

theorem classify_of_subnormal (hb : bexp = 0) (hf : frac ≠ 0) : classify bexp frac = .finite := by
  rw [classify, if_pos hb, if_neg hf]

theorem classify_of_normal (h0 : 1 ≤ bexp) (h1 : bexp ≤ 0x7FE) : classify bexp frac = .finite := by
  rw [classify, if_neg (by omega), if_neg (by omega)]

theorem classify_of_infinite (hb : bexp = 0x7FF) (hf : frac = 0) : classify bexp frac = .infinite := by
  rw [classify, if_neg (by omega), if_pos hb, if_pos hf]

theorem classify_of_nan (hb : bexp = 0x7FF) (hf : frac ≠ 0) : classify bexp frac = .nan := by
  rw [classify, if_neg (by omega), if_pos hb, if_neg hf]

theorem extract_of_subnormal (hb : bexp = 0) : extract bexp frac = ((frac : Int), -1074) := if_pos hb

theorem extract_of_normal (hb : 1 ≤ bexp) : extract bexp frac = (((frac + 2 ^ 52 : Nat) : Int), (bexp : Int) - 1075) :=
  if_neg (by omega)

/-- The exponent field of all ones gives FE = 972, to an infinity and to a NaN (R78). -/
theorem otherDec_of_ne_zero {c : Cls} (hc : c ≠ .zero) (hb : bexp = 0x7FF) (hm : frac = m) :
    otherDec c bexp frac = ((m : Int), 972) := by
  subst hb hm
  cases c with
  | zero => exact absurd rfl hc
  | finite | infinite | nan => rfl

end

/-- FM of a natural number, which a mantissa always is. -/
theorem toDec_natCast (m : Nat) (e : Int) : toDec ((m : Int), e) = ⟨BitVec.ofNat 64 m, BitVec.ofInt 32 e⟩ := by
  simp only [toDec, toU64, toS32, BitVec.ofInt_natCast]

section
variable {s : State} {m : Nat} {e : Int}

/-- A FINITE value goes on to BOUNDS (R80). -/
theorem exec_decompose_of_finite (hc : classify (bexpOf s.x) (fracOf s.x) = .finite)
    (hd : extract (bexpOf s.x) (fracOf s.x) = ((m : Int), e)) :
    exec .decompose s = .next { s with
      neg := signOf s.x, cls := .finite, f := ⟨BitVec.ofNat 64 m, BitVec.ofInt 32 e⟩, stateCode := Uop.bounds } := by
  simp only [exec, execDecompose, hc, hd, if_true, toDec_natCast]

/-- Every other value goes on to SPECIAL (R80). -/
theorem exec_decompose_of_ne_finite {c : Cls} (hc : classify (bexpOf s.x) (fracOf s.x) = c) (hfin : c ≠ .finite)
    (hd : otherDec c (bexpOf s.x) (fracOf s.x) = ((m : Int), e)) :
    exec .decompose s = .next { s with
      neg := signOf s.x, cls := c, f := ⟨BitVec.ofNat 64 m, BitVec.ofInt 32 e⟩, stateCode := Uop.special } := by
  simp only [exec, execDecompose, hc, hd, if_neg hfin, toDec_natCast]

end

/-- Settles O30: BEXP and FRAC select the class, and the class selects FM, FE and the next STATE. -/
theorem decomposeByClass : Obligations.DecomposeByClass := by
  intro s bexp frac
  refine ⟨fun hb hf => ?zero, fun hb hf => ?subnormal, fun h0 h1 => ?normal, fun hb hf => ?infinite, fun hb hf => ?nan⟩
  case zero => exact exec_decompose_of_ne_finite (m := 0) (classify_of_zero hb hf) (by decide) rfl
  case subnormal => exact exec_decompose_of_finite (classify_of_subnormal hb hf) (extract_of_subnormal hb)
  case normal => exact exec_decompose_of_finite (classify_of_normal h0 h1) (extract_of_normal h0)
  case infinite =>
    exact exec_decompose_of_ne_finite (classify_of_infinite hb hf) (by decide) (otherDec_of_ne_zero (by decide) hb hf)
  case nan =>
    exact exec_decompose_of_ne_finite (classify_of_nan hb hf) (by decide) (otherDec_of_ne_zero (by decide) hb rfl)

end Sys2Proof.Machine

namespace Sys2Proof.Machine

/-! ### Normalization by a shift (42_boundary.md R81) -/

theorem pos_of_normalized {m k : Nat} (h : 2 ^ 63 ≤ m * 2 ^ k) : 0 < m :=
  Nat.pos_of_mul_pos_right ((by decide : 0 < 2 ^ 63).trans_le h)

/-- The shift that sets bit 63 is the only one: it fills the mantissa up to 64 bits. -/
theorem bitlen_add_of_normalized {m k : Nat} (h0 : 2 ^ 63 ≤ m * 2 ^ k) (h1 : m * 2 ^ k < 2 ^ 64) : bitlen m + k = 64 := by
  have hlo : 2 ^ (bitlen m - 1 + k) < 2 ^ 64 := by
    rw [pow_add]
    exact (Nat.mul_le_mul_right _ (two_pow_le_of_bitlen (pos_of_normalized h0))).trans_lt h1
  have hhi : 2 ^ 63 < 2 ^ (bitlen m + k) := by
    rw [pow_add]
    exact h0.trans_lt (Nat.mul_lt_mul_of_pos_right (lt_two_pow_bitlen m) (Nat.two_pow_pos k))
  rw [Nat.pow_lt_pow_iff_right (by decide)] at hlo hhi
  omega

theorem norm_of_normalized {m k : Nat} (h0 : 2 ^ 63 ≤ m * 2 ^ k) (h1 : m * 2 ^ k < 2 ^ 64) (e : Int) :
    norm m e = (m * 2 ^ k, e - k) := by
  have hk := bitlen_add_of_normalized h0 h1
  have hm : m < 2 ^ 64 := (Nat.le_mul_of_pos_right m (Nat.two_pow_pos k)).trans_lt h1
  rw [norm_of_mem (pos_of_normalized h0) hm, show 64 - bitlen m = k by omega]
  congr 1
  omega

/-- NORMW with the shift that normalizes FM (R86). -/
theorem exec_normw_of_normalized {s : State} {k : Nat} (h0 : 2 ^ 63 ≤ s.f.m.toNat * 2 ^ k) (h1 : s.f.m.toNat * 2 ^ k < 2 ^ 64) :
    exec .normw s = .next { s with
      w := ⟨BitVec.ofNat 64 (s.f.m.toNat * 2 ^ k), BitVec.ofInt 32 (s.f.e.toInt - k)⟩, stateCode := Uop.pinit } := by
  simp only [exec, execNormw, norm_of_normalized h0 h1, toDec_natCast]

/-- Settles O32: every FM other than 0 lies in Norm's domain, and NORMW writes what Norm gives. -/
theorem normwNormalizes : Obligations.NormwNormalizes := by
  refine ⟨fun s hm => ?_, fun s => ⟨_, rfl, rfl⟩⟩
  have hpos : 0 < s.f.m.toNat := Nat.pos_of_ne_zero fun h => hm (BitVec.eq_of_toNat_eq h)
  obtain ⟨h0, h1⟩ := norm_mantissa_range hpos s.f.m.isLt
  exact ⟨_, h0, h1, exec_normw_of_normalized h0 h1⟩

/-! ### The two midpoints on one exponent (R82, R83) -/

/-- The shift of the boundaries: `k` normalizes the upper midpoint `2m + 1`, and `k + 1` normalizes the mantissa itself. -/
structure IsBoundaryShift (m k : Nat) : Prop where
  mantissa_ge : 2 ^ 63 ≤ m * 2 ^ (k + 1)
  upper_lt : (2 * m + 1) * 2 ^ k < 2 ^ 64
  ten_le : 10 ≤ k
  le_62 : k ≤ 62
  eq_ten : m = 2 ^ 52 → k = 10

theorem exists_isBoundaryShift {m : Nat} (h0 : 0 < m) (h1 : m < 2 ^ 53) : ∃ k, IsBoundaryShift m k := by
  have hb := bitlen_le_of_lt h1
  have hb0 := bitlen_pos h0
  have hlt := lt_two_pow_bitlen m
  have hk : 64 - bitlen m = 63 - bitlen m + 1 := by omega
  refine ⟨63 - bitlen m, hk ▸ (norm_mantissa_range h0 (by omega)).1, ?_, by omega, by omega, fun h => ?_⟩
  · calc (2 * m + 1) * 2 ^ (63 - bitlen m)
      _ < 2 * 2 ^ bitlen m * 2 ^ (63 - bitlen m) := Nat.mul_lt_mul_of_pos_right (by omega) (Nat.two_pow_pos _)
      _ = 2 ^ (1 + bitlen m + (63 - bitlen m)) := by ring
      _ = 2 ^ 64 := by congr 1; omega
  · have : 52 < bitlen m := (Nat.pow_lt_pow_iff_right (by decide : 1 < 2)).mp (h ▸ hlt)
    omega

/-- The upper midpoint lies half an ULP above the value. -/
theorem two_mul_add_one_mul_two_pow (m k : Nat) : (2 * m + 1) * 2 ^ k = m * 2 ^ (k + 1) + 2 ^ k := by ring

/-- The mantissa of the lower midpoint, shifted like the upper one by `k` (R83). -/
def lowerMantissa (m k : Nat) : Nat := (m * 2 ^ lowerShift m - 1) * 2 ^ (k + 1 - lowerShift m)

theorem lowerShift_cases (m : Nat) : (m = 2 ^ 52 ∧ lowerShift m = 2) ∨ (m ≠ 2 ^ 52 ∧ lowerShift m = 1) := by
  by_cases h : m = 2 ^ 52
  · exact .inl ⟨h, if_pos h⟩
  · exact .inr ⟨h, if_neg h⟩

section
variable {m k : Nat}

theorem IsBoundaryShift.pos (h : IsBoundaryShift m k) : 0 < m := pos_of_normalized h.mantissa_ge

theorem IsBoundaryShift.lowerShift_le (h : IsBoundaryShift m k) : lowerShift m ≤ k + 1 := by
  have := h.ten_le
  have := lowerShift_cases m
  omega

theorem IsBoundaryShift.upper_ge (h : IsBoundaryShift m k) : 2 ^ 63 ≤ (2 * m + 1) * 2 ^ k :=
  two_mul_add_one_mul_two_pow m k ▸ h.mantissa_ge.trans (Nat.le_add_right _ _)

theorem IsBoundaryShift.mantissa_lt (h : IsBoundaryShift m k) : m * 2 ^ (k + 1) < 2 ^ 64 :=
  (Nat.le_add_right _ _).trans_lt (two_mul_add_one_mul_two_pow m k ▸ h.upper_lt)

/-- The lower midpoint lies half an ULP, or a quarter, below the value. -/
theorem IsBoundaryShift.lowerMantissa_add (h : IsBoundaryShift m k) :
    lowerMantissa m k + 2 ^ (k + 1 - lowerShift m) = m * 2 ^ (k + 1) := by
  have hpos : 1 ≤ m * 2 ^ lowerShift m := Nat.mul_pos h.pos (Nat.two_pow_pos _)
  calc (m * 2 ^ lowerShift m - 1) * 2 ^ (k + 1 - lowerShift m) + 2 ^ (k + 1 - lowerShift m)
    _ = (m * 2 ^ lowerShift m - 1 + 1) * 2 ^ (k + 1 - lowerShift m) := (Nat.succ_mul _ _).symm
    _ = m * 2 ^ (lowerShift m + (k + 1 - lowerShift m)) := by rw [Nat.sub_add_cancel hpos, mul_assoc, ← pow_add]
    _ = m * 2 ^ (k + 1) := by rw [Nat.add_sub_cancel' h.lowerShift_le]

theorem IsBoundaryShift.lowerMantissa_lt (h : IsBoundaryShift m k) : lowerMantissa m k < 2 ^ 64 :=
  (Nat.le_add_right _ _).trans_lt (h.lowerMantissa_add ▸ h.mantissa_lt)

theorem IsBoundaryShift.upper_eq (h : IsBoundaryShift m k) (e : Int) : upper m e = ((2 * m + 1) * 2 ^ k, e - 1 - k) :=
  norm_of_normalized h.upper_ge h.upper_lt (e - 1)

theorem IsBoundaryShift.lower_eq (h : IsBoundaryShift m k) (e : Int) :
    lower m e = ((lowerMantissa m k : Int), e - 1 - k) := by
  have hle := h.lowerShift_le
  have hpos : 1 ≤ m * 2 ^ lowerShift m := Nat.mul_pos h.pos (Nat.two_pow_pos _)
  have hsh : e - lowerShift m - (e - 1 - k) = (k + 1 - lowerShift m : Nat) := by omega
  simp only [lower, lowerMantissa, h.upper_eq, hsh, if_pos (Int.natCast_nonneg _), Int.toNat_natCast]
  push_cast [hpos]
  rfl

end

/-- BOUNDS with the shift that normalizes 2 FM + 1 (R85). -/
theorem exec_bounds_of_isBoundaryShift {s : State} {k : Nat} (h : IsBoundaryShift s.f.m.toNat k) :
    exec .bounds s = .next { s with
      u := ⟨BitVec.ofNat 64 ((2 * s.f.m.toNat + 1) * 2 ^ k), BitVec.ofInt 32 (s.f.e.toInt - 1 - k)⟩
      l := ⟨BitVec.ofNat 64 (lowerMantissa s.f.m.toNat k), BitVec.ofInt 32 (s.f.e.toInt - 1 - k)⟩
      stateCode := Uop.normw } := by
  simp only [exec, execBounds, h.upper_eq, h.lower_eq, toDec_natCast]

/-- Settles O31: the shift of the boundaries exists, and BOUNDS writes what Upper and Lower give by it. -/
theorem boundsComputesMidpoints : Obligations.BoundsComputesMidpoints := by
  refine ⟨fun s h0 h1 _ _ => ?_, fun s => ⟨_, rfl, rfl⟩⟩
  obtain ⟨k, hk⟩ := exists_isBoundaryShift h0 h1
  exact ⟨k, hk.upper_ge, hk.upper_lt, hk.lowerShift_le, exec_bounds_of_isBoundaryShift hk⟩

/-! ### DECOMPOSE, BOUNDS and NORMW in turn (R84) -/

/-- A turn of the sequencer runs the micro-operation of STATE's code (R134). -/
theorem sequencerRun_succ {s t : State} {c : BitVec 4} {k : Nat} (hc : s.stateCode = c)
    (h : exec (decode (.uop c)) s = .next t) : sequencerRun (k + 1) s = sequencerRun k t := by
  rw [sequencerRun, hc, h]

/-- DECOMPOSE leaves a decomposed finite value in FM and FE (R77, R80). -/
theorem exec_decompose_isFiniteDec {s : State} (hc : classify (bexpOf s.x) (fracOf s.x) = .finite) :
    ∃ d, IsFiniteDec d ∧ exec .decompose s = .next { s with
      neg := signOf s.x, cls := .finite, f := d, stateCode := Uop.bounds } :=
  ⟨_, isFiniteDec_extract hc, by simp only [exec, execDecompose, hc, if_true]⟩

/-- The registers after DECOMPOSE, BOUNDS and NORMW of a finite input, by the one shift of its boundaries. -/
theorem sequencerRun_three_of_finite {s : State} (h1 : s.stateCode = Uop.decompose)
    (hc : classify (bexpOf s.x) (fracOf s.x) = .finite) :
    ∃ d k, IsFiniteDec d ∧ IsBoundaryShift d.m.toNat k ∧ sequencerRun 3 s = { s with
      neg := signOf s.x, cls := .finite, f := d
      u := ⟨BitVec.ofNat 64 ((2 * d.m.toNat + 1) * 2 ^ k), BitVec.ofInt 32 (d.e.toInt - 1 - k)⟩
      l := ⟨BitVec.ofNat 64 (lowerMantissa d.m.toNat k), BitVec.ofInt 32 (d.e.toInt - 1 - k)⟩
      w := ⟨BitVec.ofNat 64 (d.m.toNat * 2 ^ (k + 1)), BitVec.ofInt 32 (d.e.toInt - 1 - k)⟩
      stateCode := Uop.pinit } := by
  obtain ⟨d, hd, hdecompose⟩ := exec_decompose_isFiniteDec hc
  have ⟨hm0, hm1, _⟩ := hd
  obtain ⟨k, hk⟩ := exists_isBoundaryShift hm0 hm1
  refine ⟨d, k, hd, hk, ?_⟩
  have he : d.e.toInt - (k + 1 : Nat) = d.e.toInt - 1 - k := by omega
  refine Eq.trans (sequencerRun_succ h1 hdecompose) ?_
  refine Eq.trans (sequencerRun_succ rfl (exec_bounds_of_isBoundaryShift hk)) ?_
  refine Eq.trans (sequencerRun_succ rfl (exec_normw_of_normalized hk.mantissa_ge hk.mantissa_lt)) ?_
  rw [sequencerRun, he]

/-- Settles O33: the shift of the boundaries is from 10 to 62, so the exponents lie in R84's range and the half ULP 2^k is at
least 2^10. -/
theorem boundaryRanges : Obligations.BoundaryRanges := by
  intro s h1 hc
  obtain ⟨d, k, ⟨-, -, he0, he1, -⟩, hk, hrun⟩ := sequencerRun_three_of_finite h1 hc
  rw [hrun]
  have hk10 := hk.ten_le
  have hk62 := hk.le_62
  have hwm := hk.mantissa_ge
  have hum := hk.upper_lt
  have hupper := two_mul_add_one_mul_two_pow d.m.toNat k
  have hlower := hk.lowerMantissa_add
  have hulp : 2 ^ 10 ≤ 2 ^ k := Nat.pow_le_pow_right (by decide) hk10
  have hue : (BitVec.ofInt 32 (d.e.toInt - 1 - k)).toInt = d.e.toInt - 1 - k := toInt_toS32 (by omega) (by omega)
  simp only [hue, BitVec.toNat_ofNat]
  rw [Nat.mod_eq_of_lt hum, Nat.mod_eq_of_lt hk.mantissa_lt, Nat.mod_eq_of_lt hk.lowerMantissa_lt]
  refine ⟨trivial, trivial, trivial, trivial, by omega, by omega, hwm, hk.upper_ge, by omega, ?_⟩
  rcases lowerShift_cases d.m.toNat with ⟨hm, hl⟩ | ⟨hm, hl⟩
  · simp only [hl, hk.eq_ten hm] at hlower hupper ⊢
    omega
  · simp only [hl, Nat.add_sub_cancel] at hlower ⊢
    omega

end Sys2Proof.Machine

namespace Sys2Proof.Machine

/-! ### PWALK, case by case (43_cached_power.md R93) -/

/-- An index outside the table is the guard fault TABLE_RANGE. -/
theorem exec_pwalk_of_outside {s : State} (h : s.idx.toInt < 0 ∨ 86 < s.idx.toInt) :
    exec .pwalk s = .next (raiseFault .tableRange s) := if_pos h

section
variable {s : State} {i : Nat} (hi : i ≤ 86) (idx : s.idx.toInt = i)

include idx in
theorem toS8_idx_add (d : Int) : toS8 (i + d) = s.idx + BitVec.ofInt 8 d := by
  rw [toS8, ← idx, BitVec.ofInt_add, BitVec.ofInt_toInt]

include hi idx

theorem exec_pwalk_of_below (h : scaledExp s.u.e.toInt i < Config.windowLo) :
    exec .pwalk s = .next { s with idx := s.idx + 1, stateCode := Uop.pwalk } := by
  simp only [exec, execPwalk, idx, Int.toNat_natCast]
  rw [if_neg (by omega), if_pos h, toS8_idx_add idx]
  rfl

theorem exec_pwalk_of_above (h : Config.windowHi < scaledExp s.u.e.toInt i) :
    exec .pwalk s = .next { s with idx := s.idx - 1, stateCode := Uop.pwalk } := by
  have hlo : ¬ scaledExp s.u.e.toInt i < Config.windowLo := by
    simp only [Config.windowHi, Config.windowLo] at *
    omega
  simp only [exec, execPwalk, idx, Int.toNat_natCast]
  rw [if_neg (by omega), if_neg hlo, if_pos h, sub_eq_add_neg, toS8_idx_add idx, sub_eq_add_neg]
  rfl

/-- In the window the entry is taken. -/
theorem exec_pwalk_of_window (hlo : Config.windowLo ≤ scaledExp s.u.e.toInt i)
    (hhi : scaledExp s.u.e.toInt i ≤ Config.windowHi) :
    exec .pwalk s = .next { s with
      cp := ⟨BitVec.ofNat 64 (powEntry i).1, BitVec.ofInt 32 (powEntry i).2⟩
      kdec := BitVec.ofInt 32 (-348 + 8 * (i : Int))
      stateCode := Uop.mulw } := by
  simp only [exec, execPwalk, idx, Int.toNat_natCast, toDec_natCast]
  rw [if_neg (by omega), if_neg (Int.not_lt.mpr hlo), if_neg (Int.not_lt.mpr hhi)]
  rfl

end

/-- Settles O36: the index is outside the table, or its scaled exponent is below, above or in the window. -/
theorem pwalkWalksToWindow : Obligations.PwalkWalksToWindow := fun _ =>
  ⟨exec_pwalk_of_outside, fun _ hi idx =>
    ⟨exec_pwalk_of_below hi idx, exec_pwalk_of_above hi idx, exec_pwalk_of_window hi idx⟩⟩

end Sys2Proof.Machine

namespace Sys2Proof.Machine

/-! ### PINIT in R91's integer form -/

section
variable {n q : Nat}

/-- Below an integer the two approximations of log10 2 agree up to n = 1050, and the binary64 rounding cannot reach it: 59/196 and
146/485 are neighbouring fractions about log10 2, so in `(q, n) = x * (146, 485) + y * (59, 196)` a larger `q` has `1 ≤ x`, and
`n ≤ 1050` leaves `y ≤ 0`. -/
theorem mul_log2Significand_add_lt (hn : n ≤ 1050) (h : n * 78913 < q * 2 ^ 18) : n * log2Significand + 2 ^ 11 < q * 2 ^ 54 := by
  obtain ⟨x, hx⟩ : ∃ x : Int, x = 196 * q - 59 * n := ⟨_, rfl⟩
  obtain ⟨y, hy⟩ : ∃ y : Int, y = 146 * n - 485 * q := ⟨_, rfl⟩
  have hn' : (n : Int) = 485 * x + 196 * y := by omega
  have hq' : (q : Int) = 146 * x + 59 * y := by omega
  have hx1 : 1 ≤ x := by omega
  have hy0 : y ≤ 0 := by omega
  zify [log2Significand]
  omega

/-- Above an integer they agree because 78913 / 2^18 is the smaller approximation. -/
theorem le_mul_log2Significand (hq : 0 < q) (h : q * 2 ^ 18 ≤ n * 78913) : q * 2 ^ 54 + 2 ^ 11 ≤ n * log2Significand := by
  zify [log2Significand] at *
  omega

/-- The binary64 product and the integer product truncate alike (R91). -/
theorem round53_mul_div (hn : n ≤ 1050) : round53 (n * log2Significand) / 2 ^ 54 = n * 78913 / 2 ^ 18 := by
  obtain ⟨q, hq⟩ : ∃ q, n * 78913 / 2 ^ 18 = q := ⟨_, rfl⟩
  have hnear := round53_near (p := n * log2Significand) (by simp only [log2Significand]; omega)
  have habove := mul_log2Significand_add_lt (q := q + 1) hn (by omega)
  have hbelow : q = 0 ∨ q * 2 ^ 54 + 2 ^ 11 ≤ n * log2Significand :=
    q.eq_zero_or_pos.imp_right fun hpos => le_mul_log2Significand hpos (by omega)
  rw [hq]
  omega

end

section
variable {e : Int} (h0 : -1137 ≤ e) (h1 : e ≤ 960)
include h0 h1

theorem log10Approx_eq : log10Approx e =
    if e + 87 < 0 then (((e + 87).natAbs * 78913 / 2 ^ 18 : Nat) : Int)
    else -(((e + 87).natAbs * 78913 / 2 ^ 18 : Nat) : Int) := by
  have hround : (round53 ((e + 87).natAbs * log2Significand) : Int) / 2 ^ 54 = ((e + 87).natAbs * 78913 / 2 ^ 18 : Nat) := by
    exact_mod_cast round53_mul_div (n := (e + 87).natAbs) (by omega)
  simp only [log10Approx, Config.powEntries, Nat.cast_ofNat, Int.natAbs_neg, hround]
  split_ifs <;> omega

theorem initialIndex_eq : initialIndex e = (log10Approx e + 348) / 8 := by
  obtain ⟨-, -, hlow, -⟩ := log10Approx_near h0 h1
  simp only [initialIndex, trunc0, Config.powFirstExp, Config.powExpStep, sub_neg_eq_add]
  exact Int.tdiv_eq_ediv_of_nonneg (by omega)

end

/-- Settles O35: the binary64 form of R91 equals the integer form on the whole range. -/
theorem pinitComputesInitialIndex : Obligations.PinitComputesInitialIndex := by
  refine ⟨fun s h0 h1 => ?_, fun s => ⟨_, rfl, rfl⟩⟩
  dsimp only
  rw [← log10Approx_eq h0 h1, ← initialIndex_eq h0 h1]
  rfl

end Sys2Proof.Machine

namespace Sys2Proof.Machine

/-! ### The closed form of the lookup (43_cached_power.md R94) -/

section
variable {e : Int} {i : Nat}

theorem scaledExp_lt_of_lt_powIndex (h : i < powIndex e) : scaledExp e i < Config.windowLo := by
  simpa using List.not_of_lt_findIdx h

theorem powIndex_le (h : Config.windowLo ≤ scaledExp e i) : powIndex e ≤ i :=
  Nat.le_of_not_lt fun hlt => Int.not_lt.mpr h (scaledExp_lt_of_lt_powIndex hlt)

theorem windowLo_le_scaledExp_powIndex (h : powIndex e < 87) : Config.windowLo ≤ scaledExp e (powIndex e) := by
  have hlen : powIndex e < (List.range Config.powEntries).length := h.trans_eq List.length_range.symm
  unfold powIndex at hlen ⊢
  simpa only [decide_eq_true_eq, List.getElem_range] using List.findIdx_getElem (w := hlen)

end

/-- Entries 0 to 5 stay below the window at the largest exponent, 960. -/
theorem powEntry_of_lt_six : ∀ i < 6, (powEntry i).2 ≤ -1085 := by decide

/-- Entry 84 reaches the window at the smallest exponent, -1137. -/
theorem powEntry_84 : (powEntry 84).2 = 1013 := by decide

/-- An exponent for which entry `i` lies in the window or above it has an `approx` that gives an initial index below `i`, with the
slack of `log10Approx_near`. -/
theorem initialIndex_below_window : ∀ i : Nat, i < 87 →
    ((powEntry i).2 + 37) * log2Significand + 2 ^ 54 + 2 ^ 11 < 2 ^ 54 * (8 * (i : Int) - 348) := by decide

section
variable {e : Int} (h0 : -1137 ≤ e) (h1 : e ≤ 960)
include h0 h1

/-- The closed form lies well inside the table (R89, R94). -/
theorem powIndex_range : 6 ≤ powIndex e ∧ powIndex e ≤ 84 := by
  have h84 : powIndex e ≤ 84 := powIndex_le <| by
    simp only [scaledExp, powEntry_84, Config.windowLo, Config.mulExpOffset]
    omega
  have hlo := windowLo_le_scaledExp_powIndex (e := e) (by omega)
  refine ⟨Nat.le_of_not_lt fun h => ?_, h84⟩
  have := powEntry_of_lt_six _ h
  simp only [scaledExp, Config.windowLo, Config.mulExpOffset] at hlo
  omega

/-- The entry before it lies below the window, and one entry adds at most 27. -/
theorem scaledExp_powIndex_range : -60 ≤ scaledExp e (powIndex e) ∧ scaledExp e (powIndex e) ≤ -34 := by
  obtain ⟨h6, h84⟩ := powIndex_range h0 h1
  obtain ⟨j, hj⟩ : ∃ j, powIndex e = j + 1 := ⟨powIndex e - 1, by omega⟩
  have hlo := windowLo_le_scaledExp_powIndex (e := e) (by omega)
  have hbelow := scaledExp_lt_of_lt_powIndex (e := e) (i := j) (by omega)
  have hsucc := powEntry_succ j (by omega)
  rw [hj] at hlo ⊢
  simp only [scaledExp, Config.windowLo, Config.mulExpOffset] at *
  omega

/-- PINIT starts one or two entries below the closed form. -/
theorem exists_initialIndex_add : ∃ i r : Nat, initialIndex e = i ∧ 1 ≤ r ∧ r ≤ 2 ∧ i + r = powIndex e := by
  obtain ⟨i, hi, hrange, -, hreach⟩ := initialIndex_near h0 h1
  have hle : powIndex e ≤ i + 2 := powIndex_le hreach
  have hlt : i < powIndex e := by
    obtain ⟨hlo, -⟩ := scaledExp_powIndex_range h0 h1
    have hstart := initialIndex_below_window (powIndex e) (by omega)
    obtain ⟨hup, -⟩ := log10Approx_near h0 h1
    rw [initialIndex_eq h0 h1] at hi
    simp only [scaledExp, Config.mulExpOffset, log2Significand] at hlo hstart hup
    omega
  exact ⟨i, powIndex e - i, hi, by omega, by omega, by omega⟩

end

/-- The state when PWALK has taken entry `i`. -/
def State.withPower (i : Nat) (s : State) : State :=
  { s with
    idx := BitVec.ofNat 8 i
    cp := ⟨BitVec.ofNat 64 (powEntry i).1, BitVec.ofInt 32 (powEntry i).2⟩
    kdec := BitVec.ofInt 32 (-348 + 8 * (i : Int))
    stateCode := Uop.mulw }

/-- The state of a walk at entry `i`. -/
def State.walkingAt (i : Nat) (s : State) : State := { s with idx := BitVec.ofNat 8 i, stateCode := Uop.pwalk }

theorem walkingAt_idx {s : State} {i : Nat} (hi : i ≤ 86) : (s.walkingAt i).idx.toInt = i := by
  have h := toInt_toS8 (n := i) (by omega) (by omega)
  rwa [toS8, BitVec.ofInt_natCast] at h

/-- The walk passes the entries below the closed form and takes its entry. -/
theorem sequencerRun_walkingAt {s : State} {r i : Nat} (h0 : -1137 ≤ s.u.e.toInt) (h1 : s.u.e.toInt ≤ 960)
    (hr : i + r = powIndex s.u.e.toInt) :
    sequencerRun (r + 1) (s.walkingAt i) = s.withPower (powIndex s.u.e.toInt) := by
  obtain ⟨-, h84⟩ := powIndex_range h0 h1
  have hidx := walkingAt_idx (s := s) (i := i) (by omega)
  induction r generalizing i with
  | zero =>
    obtain ⟨hlo, hhi⟩ := scaledExp_powIndex_range h0 h1
    rw [← hr] at hlo hhi ⊢
    exact sequencerRun_succ rfl (exec_pwalk_of_window (by omega) hidx hlo (hhi.trans (by decide)))
  | succ r ih =>
    have hstep := exec_pwalk_of_below (by omega) hidx (scaledExp_lt_of_lt_powIndex (show i < powIndex s.u.e.toInt by omega))
    have hnext : BitVec.ofNat 8 i + 1 = BitVec.ofNat 8 (i + 1) := (BitVec.ofNat_add i 1).symm
    refine (sequencerRun_succ (c := Uop.pwalk) rfl hstep).trans ?_
    simp only [State.walkingAt, hnext]
    exact ih (by omega) (walkingAt_idx (by omega))

/-- Settles O37: PINIT starts the walk one or two entries below the closed form, and the walk goes up to it. -/
theorem lookupFindsPowIndex : Obligations.LookupFindsPowIndex := by
  intro s hc h0 h1
  obtain ⟨i, r, hi, hr1, hr2, hr⟩ := exists_initialIndex_add h0 h1
  obtain ⟨h6, h84⟩ := powIndex_range h0 h1
  obtain ⟨hlo, hhi⟩ := scaledExp_powIndex_range h0 h1
  have hpinit : exec .pinit s = .next (s.walkingAt i) := by
    simp only [exec, execPinit, hi, toS8, BitVec.ofInt_natCast, State.walkingAt]
  refine ⟨r + 1, by omega, by omega, h6, h84, hlo, hhi, ?_⟩
  rw [Nat.add_comm, sequencerRun_succ hc hpinit]
  exact sequencerRun_walkingAt h0 h1 hr

end Sys2Proof.Machine

namespace Sys2Proof.Machine

/-! ### The POW table (43_cached_power.md R87) -/

/-- The numerator of 10^k / 2^e. -/
def powNum (k e : Int) : Nat := 10 ^ k.toNat * 2 ^ (-e).toNat

/-- The denominator of 10^k / 2^e. -/
def powDen (k e : Int) : Nat := 10 ^ (-k).toNat * 2 ^ e.toNat

theorem powDen_pos (k e : Int) : 0 < powDen k e := Nat.mul_pos (Nat.pow_pos (by decide)) (Nat.two_pow_pos _)

theorem zpow_eq_div {a : Rat} (ha : a ≠ 0) (k : Int) : a ^ k = a ^ k.toNat / a ^ (-k).toNat := by
  conv_lhs => rw [← Int.toNat_sub_toNat_neg k, zpow_sub₀ ha]
  simp only [zpow_natCast]

theorem powNum_div_powDen (k e : Int) : (powNum k e : Rat) / powDen k e = 10 ^ k / 2 ^ e := by
  rw [zpow_eq_div (by decide), zpow_eq_div (by decide), div_div_div_eq, powNum, powDen]
  push_cast
  rfl

/-- R87 for the entry `p` of 10^k, cleared of the denominator. -/
def IsNearestPower (k : Int) (p : Nat × Int) : Prop :=
  2 ^ 63 * powDen k p.2 ≤ powNum k p.2 ∧ powNum k p.2 < 2 ^ 64 * powDen k p.2 ∧ p.1 < 2 ^ 64 ∧
    2 * p.1 * powDen k p.2 < 2 * powNum k p.2 + powDen k p.2 ∧ 2 * powNum k p.2 < (2 * p.1 + 1) * powDen k p.2

theorem IsNearestPower.nearest {k : Int} {p : Nat × Int} (h : IsNearestPower k p) :
    (2 : Rat) ^ 63 ≤ 10 ^ k / 2 ^ p.2 ∧ (10 : Rat) ^ k / 2 ^ p.2 < 2 ^ 64 ∧ p.1 < 2 ^ 64 ∧
    |(p.1 : Rat) - 10 ^ k / 2 ^ p.2| < 1 / 2 := by
  obtain ⟨hlo, hhi, hm, hdown, hup⟩ := h
  have hpos : (0 : Rat) < powDen k p.2 := by exact_mod_cast powDen_pos k p.2
  rw [← powNum_div_powDen, le_div_iff₀ hpos, div_lt_iff₀ hpos, abs_sub_lt_iff, sub_lt_comm, lt_div_iff₀ hpos,
    sub_lt_iff_lt_add, div_lt_iff₀ hpos]
  qify at hlo hhi hdown hup
  exact ⟨hlo, hhi, hm, by linarith, by linarith⟩

/-- The kernel evaluates this, as 10^348 and 2^1220 lie past the elaborator's limit on exponents. -/
theorem powEntry_isNearestPower : ∀ i : Nat, i < 87 → IsNearestPower (-348 + 8 * (i : Int)) (powEntry i) := by
  unfold IsNearestPower
  decide +kernel

/-- Settles O34: R87's inequalities hold of every entry on natural numbers. -/
theorem powTableIsNearest : Obligations.PowTableIsNearest :=
  ⟨rfl, fun i hi => (powEntry_isNearestPower i hi).nearest⟩

end Sys2Proof.Machine

namespace Sys2Proof.Machine

/-! ### The multiplier's product (44_multiplier.md R96, R97, R103) -/

/-- The product of two normalized mantissas has bit 62 or bit 63 set (R98). -/
theorem two_pow_62_le_mulMant {am bm : Nat} (ha : 2 ^ 63 ≤ am) (hb : 2 ^ 63 ≤ bm) : 2 ^ 62 ≤ mulMant am bm := by
  have := Nat.mul_le_mul ha hb
  rw [mulMant_eq]
  omega

/-- R97's partial products, put together at their places. -/
theorem mul_eq_partialProducts (am bm : Nat) :
    am * bm = am / 2 ^ 32 * (bm / 2 ^ 32) * 2 ^ 64 +
      (am / 2 ^ 32 * (bm % 2 ^ 32) + am % 2 ^ 32 * (bm / 2 ^ 32)) * 2 ^ 32 + am % 2 ^ 32 * (bm % 2 ^ 32) := by
  conv_lhs => rw [← Nat.div_add_mod am (2 ^ 32), ← Nat.div_add_mod bm (2 ^ 32)]
  ring

/-- The four partial products and the carries of R97 make the rounded product, with no bound on the factors. -/
theorem mulMantSplit_eq (am bm : Nat) : mulMantSplit am bm = (am * bm + 2 ^ 63) / 2 ^ 64 := by
  rw [mul_eq_partialProducts]
  simp only [mulMantSplit]
  omega

/-- Scaling by a normalized power keeps at least half of a gap of any even size (R103). -/
theorem mulMant_add_le {l u c d : Nat} (h : l + 2 * d ≤ u) (hc : 2 ^ 63 ≤ c) : mulMant l c + d ≤ mulMant u c := by
  have hu : l * c + d * 2 ^ 64 ≤ u * c := calc
    l * c + d * 2 ^ 64 = l * c + 2 * d * 2 ^ 63 := by ring
    _ ≤ l * c + 2 * d * c := by gcongr
    _ = (l + 2 * d) * c := by ring
    _ ≤ u * c := by gcongr
  simp only [mulMant_eq]
  omega

/-- Settles O38: the mantissa is the rounded product, which `mulMant_lt` keeps within 64 bits. -/
theorem multiplyRoundsToNearest : Obligations.MultiplyRoundsToNearest := by
  refine ⟨fun a b => ?_, fun _ => rfl, fun _ => rfl, fun _ => rfl⟩
  rw [toNat_mul_m]
  exact ⟨mulMant_eq _ _, rfl, two_pow_62_le_mulMant⟩

/-- Settles O39: both formulations give the rounded product. -/
theorem splitMultiplyAgrees : Obligations.SplitMultiplyAgrees := fun am bm _ _ =>
  ⟨mulMantSplit_eq am bm, (mulMant_eq am bm).trans (mulMantSplit_eq am bm).symm⟩

/-- Settles O40: half of each gap is left, and half of the two gaps together. -/
theorem scalingKeepsGaps : Obligations.ScalingKeepsGaps := by
  intro l w u c _ hc _ hlow hup
  exact ⟨mulMant_add_le (by omega) hc, mulMant_add_le (by omega) hc, mulMant_add_le (by omega) hc⟩

end Sys2Proof.Machine

namespace Sys2Proof.Machine

/-! ### Narrowing (00_scope.md R12, log 11) -/

theorem toU64_natCast (n : Nat) : toU64 n = BitVec.ofNat 64 n := BitVec.ofInt_natCast 64 n

theorem toNat_ofNat_u64 {n : Nat} (h : n < 2 ^ 64) : (BitVec.ofNat 64 n).toNat = n := toU64_natCast n ▸ toNat_toU64_natCast h

theorem ofNat_toNat_mul (x : U64) (n : Nat) : BitVec.ofNat 64 (x.toNat * n) = x * BitVec.ofNat 64 n := by
  rw [BitVec.ofNat_mul, BitVec.ofNat_toNat, BitVec.setWidth_eq]

theorem toU64_add (a b : Int) : toU64 (a + b) = toU64 a + toU64 b := BitVec.ofInt_add a b

theorem toU64_sub (a b : Int) : toU64 (a - b) = toU64 a - toU64 b := by
  rw [sub_eq_add_neg, toU64_add, toU64, toU64, BitVec.ofInt_neg, ← BitVec.sub_eq_add_neg, toU64]

theorem toS32_toInt_add (x : S32) (d : Int) : toS32 (x.toInt + d) = x + BitVec.ofInt 32 d := by
  rw [toS32, BitVec.ofInt_add, BitVec.ofInt_toInt]

theorem toS32_toInt_sub_one (x : S32) : toS32 (x.toInt - 1) = x - 1 := by
  rw [sub_eq_add_neg, toS32_toInt_add, BitVec.sub_eq_add_neg]
  rfl

theorem toS32_neg_toInt (x : S32) : toS32 (-x.toInt) = -x := by
  rw [toS32, BitVec.ofInt_neg, BitVec.ofInt_toInt]

/-! ### SETUP (45_digit_generator.md R105) -/

/-- The two parts of a natural number at the cut. -/
theorem splitAtCut_natCast (v : Nat) {ue : Int} (h : ue ≤ 0) :
    splitAtCut v ue = (((v / 2 ^ (-ue).toNat : Nat) : Int), ((v % 2 ^ (-ue).toNat : Nat) : Int)) := by
  rw [splitAtCut_of_nonneg h]
  norm_cast

/-- Settles O41: UM - 1 is a natural number that the cut divides in two, and every other register holds its sum or difference
modulo its width. -/
theorem setupPreparesDigits : Obligations.SetupPreparesDigits := by
  refine ⟨fun s hu _ h0 => ?_, fun s => ⟨_, rfl, by rw [← toS32_neg_toInt]; rfl⟩⟩
  have hv : (s.u.m.toNat : Int) - 1 = (s.u.m.toNat - 1 : Nat) := by omega
  have hcut : toU6 (-s.u.e.toInt) = BitVec.ofNat 6 (-s.u.e.toInt).toNat := by
    rw [← BitVec.ofInt_natCast, Int.toNat_of_nonneg (by omega), toU6]
  have hsplit := splitAtCut_natCast (s.u.m.toNat - 1) h0
  rw [← hv] at hsplit
  simp only [exec, execSetup, hsplit, hcut, toS32_neg_toInt, toU64_natCast, toU64_sub, toU64_add, BitVec.ofNat_toNat,
    BitVec.setWidth_eq]
  rfl

/-! ### Append (R107) -/

theorem appendDigit_of_full {d : Nat} {s : State} (hd : d ≠ 0 ∨ s.ndig ≠ 0) (h18 : s.ndig = 18) : appendDigit d s = none := by
  rw [appendDigit, if_pos hd, if_pos h18]

/-- Append where it has nothing to store, or room. -/
theorem exists_appendDigit {d : Nat} {s : State} (h : (d = 0 ∧ s.ndig = 0) ∨ s.ndig ≠ 18) :
    ∃ dig n, appendDigit d s = some { s with dig := dig, ndig := n } ∧ s.Appended d { s with dig := dig, ndig := n } := by
  obtain ⟨hd, hn, e⟩ | ⟨hd, h18, -⟩ | ⟨hd, -, e⟩ := appendDigit_cases d s
  · exact ⟨_, _, e, fun _ _ => ⟨rfl, rfl⟩, fun hne => absurd hne (by simp [hd, hn])⟩
  · exact absurd h (by simp_all)
  · refine ⟨_, _, e, fun h0 hn => absurd hd (by simp [h0, hn]), fun _ => ⟨rfl, fun i hi => ?_⟩⟩
    simp only [writeDig_dig, Vector.getElem_setIfInBounds, digitByte, eq_comm (a := i)]

/-! ### DGINT (R106) -/

/-- The remainder as DGINT computes it. -/
theorem sub_div_mul_eq_mod (n d : Nat) : (n : Int) - (n / d : Nat) * (d : Nat) = (n % d : Nat) := by
  have := Nat.div_add_mod' n d
  zify at this ⊢
  omega

theorem natCast_mul_two_pow (n c : Nat) : (n : Int) * 2 ^ c = (n * 2 ^ c : Nat) := by
  push_cast
  rfl

theorem quot_ten_pow (n j : Nat) : quot n (10 ^ j) = n / 10 ^ j := quot_of_pos n (Nat.pow_pos (by decide))

theorem tens_natCast {j : Nat} (hj : j ≤ 9) : tens j = 10 ^ j := by
  rw [tens_of_mem (by omega) (by omega), Int.toNat_natCast]

section
variable {s : State} {j : Nat} (kappa : s.kappa.toInt - 1 = j) (hj : j ≤ 9)
include kappa hj

/-- A full DIG is the guard fault DIGIT_OVERFLOW. -/
theorem exec_dgint_of_full (hd : s.p1.toNat / 10 ^ j ≠ 0 ∨ s.ndig ≠ 0) (h18 : s.ndig = 18) :
    exec .dgint s = .next (raiseFault .digitOverflow s) := by
  simp only [exec, execDgint, kappa, tens_natCast hj, quot_ten_pow, appendDigit_of_full hd h18]

variable {dig : Vector Byte 18} {n : BitVec 5}
  (append : appendDigit (s.p1.toNat / 10 ^ j) s = some { s with dig := dig, ndig := n })
include append

/-- DGINT at its last step: the remainder is within DELTA. -/
theorem exec_dgint_of_stop (h : s.p1.toNat % 10 ^ j * 2 ^ s.cut.toNat + s.p2.toNat ≤ s.delta.toNat) :
    exec .dgint s = .next { s with
      dig := dig
      ndig := n
      p1 := BitVec.ofNat 64 (s.p1.toNat % 10 ^ j)
      kappa := BitVec.ofInt 32 j
      kexp := s.kexp + BitVec.ofInt 32 j
      rem := BitVec.ofNat 64 (s.p1.toNat % 10 ^ j * 2 ^ s.cut.toNat + s.p2.toNat)
      unit := BitVec.ofNat 64 (10 ^ j * 2 ^ s.cut.toNat)
      wsc := s.wfrac
      stateCode := Uop.round } := by
  simp only [exec, execDgint, kappa, tens_natCast hj, quot_ten_pow, append, sub_div_mul_eq_mod, natCast_mul_two_pow,
    ← Nat.cast_add, Int.ofNat_le, if_pos h, toU64_natCast, toS32_toInt_add]
  rfl

/-- DGINT before its last step. -/
theorem exec_dgint_of_continue (h : s.delta.toNat < s.p1.toNat % 10 ^ j * 2 ^ s.cut.toNat + s.p2.toNat) :
    exec .dgint s = .next { s with
      dig := dig
      ndig := n
      p1 := BitVec.ofNat 64 (s.p1.toNat % 10 ^ j)
      kappa := BitVec.ofInt 32 j
      stateCode := if j = 0 then Uop.dgfrac else Uop.dgint } := by
  simp only [exec, execDgint, kappa, tens_natCast hj, quot_ten_pow, append, sub_div_mul_eq_mod, natCast_mul_two_pow,
    ← Nat.cast_add, Int.ofNat_le, if_neg (Nat.not_le.mpr h), toU64_natCast, Int.natCast_eq_zero]
  rfl

end

/-- In every state DGINT writes its own registers only, or faults. -/
theorem exec_dgint_frame (s : State) : ∃ t, exec .dgint s = .next t ∧
    (t = s.faultedWith 2 ∨
     t = { s with
       p1 := t.p1, kappa := t.kappa, kexp := t.kexp, rem := t.rem, unit := t.unit, wsc := t.wsc, dig := t.dig, ndig := t.ndig,
       stateCode := t.stateCode }) := by
  simp only [exec, execDgint]
  cases ha : appendDigit (quot s.p1.toNat (tens (s.kappa.toInt - 1))) s with
  | none => exact ⟨_, rfl, .inl rfl⟩
  | some a =>
    rw [appendDigit_frame ha]
    dsimp only
    split_ifs <;> exact ⟨_, rfl, .inr rfl⟩

/-- Settles O42: KAPPA - 1 is a position of TENS, and Append leaves the digit's cases and the stop test. -/
theorem dgintGeneratesIntegerDigit : Obligations.DgintGeneratesIntegerDigit := by
  refine ⟨fun s h1 h10 _ => ?_, exec_dgint_frame⟩
  obtain ⟨j, hj⟩ : ∃ j : Nat, s.kappa.toInt - 1 = j := ⟨(s.kappa.toInt - 1).toNat, by omega⟩
  have hj9 : j ≤ 9 := by omega
  simp only [hj, Int.toNat_natCast]
  refine ⟨exec_dgint_of_full hj hj9, fun hroom => ?_⟩
  obtain ⟨dig, n, ha, happended⟩ := exists_appendDigit hroom
  have hp1 : (BitVec.ofNat 64 (s.p1.toNat % 10 ^ j)).toNat = s.p1.toNat % 10 ^ j :=
    toNat_ofNat_u64 ((Nat.mod_le ..).trans_lt s.p1.isLt)
  rcases Nat.lt_or_ge s.delta.toNat (s.p1.toNat % 10 ^ j * 2 ^ s.cut.toNat + s.p2.toNat) with hgo | hstop
  · exact ⟨_, exec_dgint_of_continue hj hj9 ha hgo, happended, hp1, rfl, fun h => absurd h (Nat.not_le.mpr hgo),
      fun _ => ⟨rfl, rfl, rfl, rfl, by simp only [Int.natCast_eq_zero]⟩, rfl⟩
  · have hrem := toNat_ofNat_u64 (hstop.trans_lt s.delta.isLt)
    exact ⟨_, exec_dgint_of_stop hj hj9 ha hstop, happended, hp1, rfl, fun _ => ⟨rfl, hrem, rfl, rfl, rfl⟩,
      fun h => absurd h (Nat.not_lt.mpr hstop), rfl⟩

/-! ### DGFRAC (R108) -/

section
variable {s : State}

/-- A full DIG is the guard fault DIGIT_OVERFLOW. -/
theorem exec_dgfrac_of_full (hd : s.p2.toNat * 10 / 2 ^ s.cut.toNat ≠ 0 ∨ s.ndig ≠ 0) (h18 : s.ndig = 18) :
    exec .dgfrac s = .next (raiseFault .digitOverflow s) := by
  simp only [exec, execDgfrac, appendDigit_of_full hd h18]

variable {dig : Vector Byte 18} {n : BitVec 5}
  (append : appendDigit (s.p2.toNat * 10 / 2 ^ s.cut.toNat) s = some { s with dig := dig, ndig := n })
include append

/-- DGFRAC at its last step: the remainder is below the tenfold DELTA. -/
theorem exec_dgfrac_of_stop (h : s.p2.toNat * 10 % 2 ^ s.cut.toNat < s.delta.toNat * 10) :
    exec .dgfrac s = .next { s with
      dig := dig
      ndig := n
      p2 := BitVec.ofNat 64 (s.p2.toNat * 10 % 2 ^ s.cut.toNat)
      delta := s.delta * 10
      wsc := s.wsc * 10
      kappa := s.kappa - 1
      kexp := s.kexp + BitVec.ofInt 32 (s.kappa.toInt - 1)
      rem := BitVec.ofNat 64 (s.p2.toNat * 10 % 2 ^ s.cut.toNat)
      unit := BitVec.ofNat 64 (2 ^ s.cut.toNat)
      stateCode := Uop.round } := by
  simp only [exec, execDgfrac, append, if_pos h, toU64_natCast, ofNat_toNat_mul, toS32_toInt_add, toS32_toInt_sub_one]
  rfl

/-- DGFRAC before its last step. -/
theorem exec_dgfrac_of_continue (h : s.delta.toNat * 10 ≤ s.p2.toNat * 10 % 2 ^ s.cut.toNat) :
    exec .dgfrac s = .next { s with
      dig := dig
      ndig := n
      p2 := BitVec.ofNat 64 (s.p2.toNat * 10 % 2 ^ s.cut.toNat)
      delta := s.delta * 10
      wsc := s.wsc * 10
      kappa := s.kappa - 1
      stateCode := Uop.dgfrac } := by
  simp only [exec, execDgfrac, append, if_neg (Nat.not_lt.mpr h), toU64_natCast, ofNat_toNat_mul, toS32_toInt_sub_one]
  rfl

end

theorem two_pow_cut_lt (cut : BitVec 6) : 2 ^ cut.toNat < 2 ^ 64 := Nat.pow_lt_pow_right (by decide) cut.isLt

/-- Settles O43: Append leaves the digit's cases and the stop test, and the remainder and the unit are below 2^64. -/
theorem dgfracGeneratesFractionDigit : Obligations.DgfracGeneratesFractionDigit := by
  intro s _ k d p2 dl
  refine ⟨exec_dgfrac_of_full, fun hroom => ?_⟩
  obtain ⟨dig, n, ha, happended⟩ := exists_appendDigit hroom
  have hcut := two_pow_cut_lt s.cut
  have hp2 : (BitVec.ofNat 64 p2).toNat = p2 := toNat_ofNat_u64 ((Nat.mod_lt _ (Nat.two_pow_pos _)).trans hcut)
  rcases Nat.lt_or_ge p2 dl with hstop | hgo
  · exact ⟨_, exec_dgfrac_of_stop ha hstop, happended, hp2, rfl, rfl, rfl, fun _ => ⟨rfl, hp2, toNat_ofNat_u64 hcut, rfl⟩,
      fun h => absurd h (Nat.not_le.mpr hstop), rfl⟩
  · exact ⟨_, exec_dgfrac_of_continue ha hgo, happended, hp2, rfl, rfl, rfl, fun h => absurd h (Nat.not_lt.mpr hgo),
      fun _ => ⟨rfl, rfl, rfl, rfl⟩, rfl⟩

/-! ### ROUND (R110, R111) -/

/-- R111: the distance to w after the decrement is less than before it, in the reference's form. -/
theorem abs_lt_iff_reference {r u w : Int} (hu : 0 < u) (hw : r < w) :
    |r + u - w| < w - r ↔ r + u < w ∨ r + u - w < w - r := by
  rw [abs_lt]
  omega

theorem writeDig_of_lt (s : State) {i : Nat} (h : i < 18) (b : Byte) : writeDig i b s = { s with dig := s.dig.set i b } := by
  have hset : s.dig.setIfInBounds i b = s.dig.set i b := by
    ext j hj : 1
    rw [Vector.getElem_setIfInBounds, Vector.getElem_set]
  rw [writeDig, hset]

section
variable {s : State}

theorem exec_round_of_no_digits (h : s.ndig = 0) : exec .round s = .next (raiseFault .noDigits s) := by
  simp only [exec, execRound, if_pos h]

theorem exec_round_of_done (h : s.ndig ≠ 0)
    (hdone : ¬ roundsDown s.rem.toNat s.unit.toNat s.wsc.toNat s.delta.toNat) :
    exec .round s = .next { s with stateCode := Uop.emit } := by
  simp only [exec, execRound, if_neg h, if_neg hdone]
  rfl

variable {last : Nat} (hlt : last < 18) (hlast : last + 1 = s.ndig.toNat)
  (down : roundsDown s.rem.toNat s.unit.toNat s.wsc.toNat s.delta.toNat)
include hlast down

theorem exec_round_of_zero (hzero : s.dig[last] = 0x30) : exec .round s = .next (raiseFault .roundUnderflow s) := by
  have hn : s.ndig ≠ 0 := by bv_omega
  have hsub : s.ndig.toNat - 1 = last := by omega
  simp only [exec, execRound, if_neg hn, if_pos down, hsub, digAt_of_lt s hlt, if_pos hzero]

theorem exec_round_of_down (hne : s.dig[last] ≠ 0x30) :
    exec .round s = .next { s with
      dig := s.dig.set last (s.dig[last] - 1)
      rem := s.rem + s.unit
      stateCode := Uop.round } := by
  have hn : s.ndig ≠ 0 := by bv_omega
  have hsub : s.ndig.toNat - 1 = last := by omega
  simp only [exec, execRound, if_neg hn, if_pos down, hsub, digAt_of_lt s hlt, if_neg hne, writeDig_of_lt s hlt, toU64_add,
    toU64_natCast, BitVec.ofNat_toNat, BitVec.setWidth_eq]

end

/-- Settles O44: NDIG, the three tests and the last digit select the case. -/
theorem roundDecrementsOrEnds : Obligations.RoundDecrementsOrEnds := by
  intro s _ r u w d down
  have hdown : roundsDown r u w d = true ↔ down := roundsDown_iff r u w d
  exact ⟨abs_lt_iff_reference, exec_round_of_no_digits, fun hn h => exec_round_of_done hn (mt hdown.mp h),
    fun last hlt hlast h => ⟨exec_round_of_zero hlt hlast (hdown.mpr h), exec_round_of_down hlt hlast (hdown.mpr h)⟩⟩

end Sys2Proof.Machine

namespace Sys2Proof.Machine

/-! ### The position whose digit is due (45_digit_generator.md R113)

Both digit phases divide a remainder by the weight of a position. On one scale for both, `n` digits are stored, `r` is the remainder,
`v` the position's weight and `δ` is DELTA. -/

/-- What holds before the digit `r / v` is appended. SETUP leaves at least 510 in DELTA. `10 ^ n * v` is the weight of the first digit
stored, which on SETUP's scale is below 2^64; `leading` compares it with DELTA, which the scale multiplies alike. -/
structure DigitDue (n r v δ : Nat) : Prop where
  delta_ge : 510 ≤ δ
  delta_le : δ ≤ r
  rem_lt : r < 10 * v
  rem_fits : r < 2 ^ 64
  leading : n ≠ 0 → 510 * 10 ^ n * v < 2 ^ 64 * δ

section
variable {n r v δ : Nat}

theorem DigitDue.weight_pos (h : DigitDue n r v δ) : 0 < v := by
  have := h.delta_le.trans_lt h.rem_lt
  omega

/-- At most 18 digits, this one included: 510 * 10^17 is the last such product below 10 * 2^64 (R113, 5). -/
theorem DigitDue.count_le (h : DigitDue n r v δ) : n ≤ 17 := by
  obtain ⟨-, hle, hlt, -, hlead⟩ := h
  by_contra hn
  have hlead := hlead (by omega)
  have hpow : 10 ^ 18 ≤ 10 ^ n := Nat.pow_le_pow_right (by decide) (by omega)
  have hmul : 510 * 10 ^ 18 * v ≤ 510 * 10 ^ n * v := by gcongr
  omega

/-- A position that ends the generation has a digit other than 0, which covers DELTA (R113, 1 to 4). -/
theorem DigitDue.stop (h : DigitDue n r v δ) (hr : r % v < r) :
    r / v ≠ 0 ∧ r / v ≤ 9 ∧ v < 2 ^ 64 ∧ δ ≤ r % v + r / v * v := by
  have hpos := h.weight_pos
  obtain ⟨-, hle, hlt, hfit, -⟩ := h
  have hd : r / v < 10 := Nat.div_lt_of_lt_mul (by omega)
  have hv : v ≤ r := Nat.le_of_not_lt fun h => hr.ne (Nat.mod_eq_of_lt h)
  have hdm := Nat.mod_add_div' r v
  exact ⟨(Nat.div_pos hv hpos).ne', by omega, by omega, by omega⟩

/-- `m` digits are stored after the digit `d` was appended to `n` (R107). -/
def CountAfter (n d m : Nat) : Prop := (d = 0 ∧ n = 0 ∧ m = 0) ∨ ((d ≠ 0 ∨ n ≠ 0) ∧ m = n + 1)

variable {m : Nat}

/-- The digit leaves the leading weight bounded: where it is the first one, its position weighs at most the remainder. -/
theorem DigitDue.leading_append (h : DigitDue n r v δ) (hm : CountAfter n (r / v) m) (h0 : m ≠ 0) :
    510 * 10 ^ m * v < 10 * (2 ^ 64 * δ) := by
  obtain ⟨hge, -, -, hfit, hlead⟩ := h
  obtain ⟨-, -, rfl⟩ | ⟨hd, rfl⟩ := hm
  · exact absurd rfl h0
  by_cases hn : n = 0
  · subst hn
    have hv : v ≤ r := Nat.le_of_not_lt fun h => by simp [Nat.div_eq_of_lt h] at hd
    omega
  · have hlead := hlead hn
    have hpow : 510 * 10 ^ (n + 1) * v = 10 * (510 * 10 ^ n * v) := by ring
    omega

/-- The integer phase goes on: the next position weighs a tenth. -/
theorem DigitDue.next_position (h : DigitDue n r (10 * v) δ) (hm : CountAfter n (r / (10 * v)) m) (hgo : δ ≤ r % (10 * v)) :
    DigitDue m (r % (10 * v)) v δ where
  delta_ge := h.delta_ge
  delta_le := hgo
  rem_lt := Nat.mod_lt _ h.weight_pos
  rem_fits := (Nat.mod_le _ _).trans_lt h.rem_fits
  leading h0 := by
    have hlead := h.leading_append hm h0
    have hpow : 510 * 10 ^ m * (10 * v) = 10 * (510 * 10 ^ m * v) := by ring
    omega

/-- The fractional phase goes on: the scale is ten times finer. -/
theorem DigitDue.next_scale (h : DigitDue n r v δ) (hm : CountAfter n (r / v) m) (hv : v ≤ 2 ^ 60) (hgo : δ ≤ r % v) :
    DigitDue m (r % v * 10) v (δ * 10) := by
  have hmod : r % v < v := Nat.mod_lt _ h.weight_pos
  have hge := h.delta_ge
  refine ⟨by omega, by omega, by omega, by omega, fun h0 => ?_⟩
  have := h.leading_append hm h0
  omega

end

/-- The digits of a remainder on the scale of P2 are those of its integer part (R106). -/
theorem div_mod_fraction {p f c : Nat} (hf : f < 2 ^ c) {w : Nat} (hw : 0 < w) :
    (p * 2 ^ c + f) / (w * 2 ^ c) = p / w ∧ (p * 2 ^ c + f) % (w * 2 ^ c) = p % w * 2 ^ c + f := by
  have hmod : p % w + 1 ≤ w := Nat.mod_lt p hw
  rw [Nat.div_mod_unique (Nat.mul_pos hw (Nat.two_pow_pos c))]
  constructor
  · conv_rhs => rw [← Nat.mod_add_div p w]
    ring
  · calc p % w * 2 ^ c + f
      _ < (p % w + 1) * 2 ^ c := by rw [Nat.succ_mul]; omega
      _ ≤ w * 2 ^ c := by gcongr

section
variable {d : Nat} {s t : State}

/-- Append counts what it stores. -/
theorem State.Appended.countAfter (h : s.Appended d t) (hn : s.ndig.toNat ≤ 17) : CountAfter s.ndig.toNat d t.ndig.toNat := by
  obtain ⟨hzero, hstore⟩ := h
  by_cases hd : d = 0 ∧ s.ndig = 0
  · exact .inl ⟨hd.1, by simp [hd.2], by simp [(hzero hd.1 hd.2).2, hd.2]⟩
  · have hd : d ≠ 0 ∨ s.ndig ≠ 0 := by simpa only [not_and_or] using hd
    obtain ⟨hndig, -⟩ := hstore hd
    rw [hndig]
    exact .inr ⟨hd.imp_right fun h => by bv_omega, by bv_omega⟩

/-- A digit other than 0 is stored last. -/
theorem State.Appended.endsInDigit (h : s.Appended d t) (hn : s.ndig.toNat ≤ 17) (h0 : d ≠ 0) (h9 : d ≤ 9) :
    EndsInDigit d t.dig t.ndig ∧ t.ndig ≠ 0 := by
  obtain ⟨hndig, hdig⟩ := h.2 (.inl h0)
  have hsucc : t.ndig.toNat = s.ndig.toNat + 1 := by rw [hndig]; bv_omega
  refine ⟨⟨by omega, fun i hi hlast => ?_⟩, by bv_omega⟩
  rw [hdig i hi, if_pos (by omega)]
  exact toNat_digitByte h9

end

/-! ### A conversion on its course -/

/-- The conversion is at the micro-operation of this code, and the registers are such that no guard fault but OUTPUT_OVERFLOW is ahead
(R113). Up to SETUP that is what bounds its steps. -/
inductive State.OnCourse (s : State) : BitVec 4 → Prop where
  | prepares {c : BitVec 4} {n : Nat} (left : s.StepsLeft c n) (le_setup : c.toNat ≤ 0xA) : OnCourse s c
  | dgint (j : Nat) (kappa : s.kappa.toInt - 1 = j) (le_nine : j ≤ 9) (fraction : IsFraction s.p2 s.cut)
      (due : DigitDue s.ndig.toNat (s.p1.toNat * 2 ^ s.cut.toNat + s.p2.toNat) (10 ^ j * 2 ^ s.cut.toNat) s.delta.toNat)
      (above : s.delta.toNat < s.p1.toNat * 2 ^ s.cut.toNat + s.p2.toNat) : OnCourse s Uop.dgint
  | dgfrac (cut : s.cut.toNat ≤ 60)
      (due : DigitDue s.ndig.toNat (s.p2.toNat * 10) (2 ^ s.cut.toNat) (s.delta.toNat * 10)) : OnCourse s Uop.dgfrac
  | round (d : Nat) (last : EndsInDigit d s.dig s.ndig) (has_digit : s.ndig ≠ 0) (unit_pos : 0 < s.unit.toNat)
      (covers : s.delta.toNat ≤ s.rem.toNat + d * s.unit.toNat) : OnCourse s Uop.round
  | emit (has_digit : s.ndig ≠ 0) : OnCourse s Uop.emit

/-- The conversion is on its course, or it has ended with no fault or with OUTPUT_OVERFLOW. -/
def State.OnCourseOrEnded (s : State) : Prop :=
  (s.busy = true ∧ s.fault = false ∧ s.OnCourse s.stateCode) ∨ (s.stateCode = Uop.idle ∧ (s.fault = false ∨ s.cause = 4))

theorem exec_emit_onCourse {s : State} (fault : s.fault = false) (has_digit : s.ndig ≠ 0) :
    ∃ t, exec .emit s = .next t ∧ t.OnCourseOrEnded := by
  simp only [exec, execEmit, if_neg has_digit]
  split_ifs
  · exact ⟨_, rfl, .inr ⟨rfl, .inr rfl⟩⟩
  · exact ⟨_, rfl, .inr ⟨rfl, .inr rfl⟩⟩
  · exact ⟨_, rfl, .inr ⟨rfl, .inl fault⟩⟩

section
variable {s : State} (busy : s.busy = true) (fault : s.fault = false)
include busy fault

/-- The step that stops stores a digit that covers DELTA; the others leave the next position due, on a finer scale after the last
integer digit (R106, R113). -/
theorem exec_dgint_onCourse {j : Nat} (kappa : s.kappa.toInt - 1 = j) (le_nine : j ≤ 9) (fraction : IsFraction s.p2 s.cut)
    (due : DigitDue s.ndig.toNat (s.p1.toNat * 2 ^ s.cut.toNat + s.p2.toNat) (10 ^ j * 2 ^ s.cut.toNat) s.delta.toNat)
    (above : s.delta.toNat < s.p1.toNat * 2 ^ s.cut.toNat + s.p2.toNat) :
    ∃ t, exec .dgint s = .next t ∧ t.OnCourseOrEnded := by
  obtain ⟨hcut, hp2⟩ := fraction
  obtain ⟨hdiv, hmod⟩ := div_mod_fraction (p := s.p1.toNat) hp2 (w := 10 ^ j) (Nat.pow_pos (by decide))
  have hcut60 : 2 ^ s.cut.toNat ≤ 2 ^ 60 := Nat.pow_le_pow_right (by decide) hcut
  have hp1 : (BitVec.ofNat 64 (s.p1.toNat % 10 ^ j)).toNat = s.p1.toNat % 10 ^ j :=
    toNat_ofNat_u64 ((Nat.mod_le _ _).trans_lt s.p1.isLt)
  have hn := due.count_le
  obtain ⟨dig, n, ha, happended⟩ := exists_appendDigit (d := s.p1.toNat / 10 ^ j) (s := s) (.inr (by bv_omega))
  rcases Nat.lt_or_ge s.delta.toNat (s.p1.toNat % 10 ^ j * 2 ^ s.cut.toNat + s.p2.toNat) with hgo | hstop
  · have hcount := happended.countAfter hn
    refine ⟨_, exec_dgint_of_continue kappa le_nine ha hgo, .inl ⟨busy, fault, ?_⟩⟩
    rw [← hdiv] at hcount
    rw [← hmod] at hgo
    cases j with
    | zero =>
      have hdue := due.next_scale hcount (by simpa using hcut60) hgo.le
      rw [hmod] at hdue
      refine .dgfrac hcut ?_
      simpa [Nat.mod_one] using hdue
    | succ i =>
      have hten : 10 ^ (i + 1) * 2 ^ s.cut.toNat = 10 * (10 ^ i * 2 ^ s.cut.toNat) := by ring
      have hkappa : (BitVec.ofInt 32 (i + 1 : Nat)).toInt = (i + 1 : Nat) := toInt_toS32 (by omega) (by omega)
      rw [hten] at due hcount hgo hmod
      have hdue := due.next_position hcount hgo.le
      rw [hmod] at hdue hgo
      exact .dgint i (by simp only [hkappa]; omega) (by omega) ⟨hcut, hp2⟩ (by simpa only [hp1]) (by simpa only [hp1])
  · obtain ⟨hd0, hd9, hfit, hcover⟩ := due.stop (by omega)
    rw [hdiv] at hd0 hd9 hcover
    rw [hmod] at hcover
    obtain ⟨hlast, hdigit⟩ := happended.endsInDigit hn hd0 hd9
    have hunit := toNat_ofNat_u64 hfit
    have hrem := toNat_ofNat_u64 (hstop.trans_lt s.delta.isLt)
    refine ⟨_, exec_dgint_of_stop kappa le_nine ha hstop, .inl ⟨busy, fault, .round _ hlast hdigit ?_ ?_⟩⟩
    · simp only [hunit]
      positivity
    · simpa only [hunit, hrem]

/-- Likewise on the scale of the step; the tenfold DELTA is at most the tenfold P2, so it is held exactly (R108, R113, 2). -/
theorem exec_dgfrac_onCourse (cut : s.cut.toNat ≤ 60)
    (due : DigitDue s.ndig.toNat (s.p2.toNat * 10) (2 ^ s.cut.toNat) (s.delta.toNat * 10)) :
    ∃ t, exec .dgfrac s = .next t ∧ t.OnCourseOrEnded := by
  have hcut60 : 2 ^ s.cut.toNat ≤ 2 ^ 60 := Nat.pow_le_pow_right (by decide) cut
  have hp2 : (BitVec.ofNat 64 (s.p2.toNat * 10 % 2 ^ s.cut.toNat)).toNat = s.p2.toNat * 10 % 2 ^ s.cut.toNat :=
    toNat_ofNat_u64 ((Nat.mod_lt _ (Nat.two_pow_pos _)).trans_le (hcut60.trans (by decide)))
  have hdelta : (s.delta * 10).toNat = s.delta.toNat * 10 := by
    have := due.delta_le.trans_lt due.rem_fits
    rw [BitVec.toNat_mul]
    exact Nat.mod_eq_of_lt this
  have hn := due.count_le
  obtain ⟨dig, n, ha, happended⟩ :=
    exists_appendDigit (d := s.p2.toNat * 10 / 2 ^ s.cut.toNat) (s := s) (.inr (by bv_omega))
  rcases Nat.lt_or_ge (s.p2.toNat * 10 % 2 ^ s.cut.toNat) (s.delta.toNat * 10) with hstop | hgo
  · obtain ⟨hd0, hd9, hfit, hcover⟩ := due.stop (hstop.trans_le due.delta_le)
    obtain ⟨hlast, hdigit⟩ := happended.endsInDigit hn hd0 hd9
    have hunit := toNat_ofNat_u64 hfit
    refine ⟨_, exec_dgfrac_of_stop ha hstop, .inl ⟨busy, fault, .round _ hlast hdigit ?_ ?_⟩⟩
    · simp only [hunit]
      positivity
    · simpa only [hunit, hp2, hdelta]
  · have hdue := due.next_scale (happended.countAfter hn) hcut60 hgo
    exact ⟨_, exec_dgfrac_of_continue ha hgo, .inl ⟨busy, fault, .dgfrac cut (by simpa only [hp2, hdelta])⟩⟩

/-- A decrement needs a unit of headroom below DELTA, which the last digit covers: it is not '0' (R113, 4). -/
theorem exec_round_onCourse {d : Nat} (last : EndsInDigit d s.dig s.ndig) (has_digit : s.ndig ≠ 0) (unit_pos : 0 < s.unit.toNat)
    (covers : s.delta.toNat ≤ s.rem.toNat + d * s.unit.toNat) : ∃ t, exec .round s = .next t ∧ t.OnCourseOrEnded := by
  by_cases hdown : roundsDown s.rem.toNat s.unit.toNat s.wsc.toNat s.delta.toNat
  case neg => exact ⟨_, exec_round_of_done has_digit hdown, .inl ⟨busy, fault, .emit has_digit⟩⟩
  obtain ⟨hn, hbyte⟩ := last
  obtain ⟨i, hi⟩ : ∃ i, i + 1 = s.ndig.toNat := ⟨s.ndig.toNat - 1, by bv_omega⟩
  have hlt : i < 18 := by omega
  have hbyte := hbyte i hlt hi
  obtain ⟨-, hroom, -⟩ := (roundsDown_iff _ _ _ _).mp hdown
  cases d with
  | zero => omega
  | succ q =>
    have hne : s.dig[i] ≠ 0x30 := by bv_omega
    have hrem : (s.rem + s.unit).toNat = s.rem.toNat + s.unit.toNat := BitVec.toNat_add_of_lt (by omega)
    refine ⟨_, exec_round_of_down hlt hi hdown hne, .inl ⟨busy, fault, .round q ⟨hn, fun k _ hk => ?_⟩ has_digit unit_pos ?_⟩⟩
    · obtain rfl : k = i := by simp only at hk; omega
      simp only [Vector.getElem_set_self]
      bv_omega
    · rw [Nat.succ_mul] at covers
      simp only [hrem]
      omega

/-- SETUP leaves 510 of the gap of 2^9 in DELTA, and the tenth position weighs more than a tenth of UM. -/
theorem exec_setup_onCourse (lo : -60 ≤ s.u.e.toInt) (hi : s.u.e.toInt ≤ -32) (gap : s.l.m.toNat + 2 ^ 9 ≤ s.u.m.toNat) :
    ∃ t, exec .setup s = .next t ∧ t.OnCourseOrEnded := by
  have hexec := setupPreparesDigits.1 s (by omega) (by omega) (by omega)
  obtain ⟨c, hc⟩ : ∃ c : Nat, -s.u.e.toInt = c := ⟨(-s.u.e.toInt).toNat, by omega⟩
  simp only [hc, Int.toNat_natCast] at hexec
  have hlt := s.u.m.isLt
  have hcut : (BitVec.ofNat 6 c).toNat = c := by rw [BitVec.toNat_ofNat]; omega
  have hmod : (s.u.m.toNat - 1) % 2 ^ c < 2 ^ c := Nat.mod_lt _ (Nat.two_pow_pos c)
  have hp1 := toNat_ofNat_u64 (n := (s.u.m.toNat - 1) / 2 ^ c) ((Nat.div_le_self _ _).trans_lt (by omega))
  have hp2 := toNat_ofNat_u64 (n := (s.u.m.toNat - 1) % 2 ^ c) ((Nat.mod_le _ _).trans_lt (by omega))
  have hparts := Nat.div_add_mod' (s.u.m.toNat - 1) (2 ^ c)
  have hdelta : (s.u.m - 1 - (s.l.m + 1)).toNat = s.u.m.toNat - 1 - (s.l.m.toNat + 1) := by bv_omega
  have hweight : 2 ^ 32 ≤ 2 ^ c := Nat.pow_le_pow_right (by decide) (by omega)
  refine ⟨_, hexec, .inl ⟨busy, fault, .dgint 9 rfl (by decide) ?fraction ?due ?above⟩⟩
  case fraction => exact ⟨by simp only [hcut]; omega, by simpa only [hcut, hp2]⟩
  case due =>
    simp only [hp1, hp2, hcut, hparts, hdelta]
    exact ⟨by omega, by omega, by omega, by omega, fun h => absurd rfl h⟩
  case above =>
    simp only [hp1, hp2, hcut, hparts, hdelta]
    omega

end

/-- Up to MULL a micro-operation of a conversion on its way raises no fault, and what follows is at most SETUP or the end. -/
theorem State.StepsLeft.exec_before_setup {s : State} {c : BitVec 4} {n : Nat} (h : s.StepsLeft c n) (hc : c.toNat < 0xA) :
    ∃ t, Machine.exec (decode (.uop c)) s = .next t ∧ t.fault = s.fault ∧
      (t.stateCode = Uop.idle ∨ (t.busy = s.busy ∧ t.stateCode.toNat ≤ 0xA)) := by
  cases h with
  | decompose =>
    refine ⟨_, rfl, rfl, .inr ⟨rfl, ?_⟩⟩
    dsimp only
    split <;> decide
  | special => exact ⟨_, rfl, rfl, .inl rfl⟩
  | pwalk ul i r idx range =>
    simp only [decode, decodeUop, Machine.exec, execPwalk, idx]
    rw [if_neg (by omega)]
    split_ifs <;> exact ⟨_, rfl, rfl, .inr ⟨rfl, by simp⟩⟩
  | bounds | normw | pinit | mulw | mulu | mull => exact ⟨_, rfl, rfl, .inr ⟨rfl, by simp⟩⟩
  | setup | dgint | dgfrac | round | emit => exact absurd hc (by decide)

theorem State.StepsLeft.exec_onCourse {s : State} {c : BitVec 4} {n : Nat} (h : s.StepsLeft c n) (hc : c.toNat < 0xA)
    (busy : s.busy = true) (fault : s.fault = false) : ∃ t, Machine.exec (decode (.uop c)) s = .next t ∧ t.OnCourseOrEnded := by
  obtain ⟨t, ht, hfault, hnext⟩ := h.exec_before_setup hc
  rw [fault] at hfault
  obtain hidle | ⟨hbusy, hcode⟩ := hnext
  · exact ⟨t, ht, .inr ⟨hidle, .inl hfault⟩⟩
  · rw [busy] at hbusy
    obtain ⟨u, hu, hends⟩ := h.exec
    obtain rfl : t = u := by simpa [ht] using hu
    obtain ⟨m, -, hleft⟩ := hends hbusy
    exact ⟨t, ht, .inl ⟨hbusy, hfault, .prepares hleft hcode⟩⟩

theorem State.OnCourse.exec {s : State} {c : BitVec 4} (h : s.OnCourse c) (busy : s.busy = true) (fault : s.fault = false) :
    ∃ t, Machine.exec (decode (.uop c)) s = .next t ∧ t.OnCourseOrEnded := by
  cases h with
  | prepares left le_setup =>
    rcases Nat.lt_or_eq_of_le le_setup with hlt | heq
    · exact left.exec_onCourse hlt busy fault
    · cases left with
      | setup lo hi gap => exact exec_setup_onCourse busy fault lo hi gap
      | _ => exact absurd heq (by decide)
  | dgint j kappa le_nine fraction due above => exact exec_dgint_onCourse busy fault kappa le_nine fraction due above
  | dgfrac cut due => exact exec_dgfrac_onCourse busy fault cut due
  | round d last has_digit unit_pos covers => exact exec_round_onCourse busy fault last has_digit unit_pos covers
  | emit has_digit => exact exec_emit_onCourse fault has_digit

theorem State.OnCourse.advance {s : State} {c : BitVec 4} (h : s.OnCourse c) : (advance s).OnCourse c := by
  cases h with
  | prepares left le_setup => exact .prepares (left.of_sameButHost rfl) le_setup
  | dgint j kappa le_nine fraction due above => exact .dgint j kappa le_nine fraction due above
  | dgfrac cut due => exact .dgfrac cut due
  | round d last has_digit unit_pos covers => exact .round d last has_digit unit_pos covers
  | emit has_digit => exact .emit has_digit

/-- A step with nothing pending keeps the conversion on its course or ended. -/
theorem State.OnCourseOrEnded.step {s t : State} (h : s.OnCourseOrEnded) (hp : s.pending = []) (hs : step s = .next t) :
    t.OnCourseOrEnded := by
  rw [step_of_pending_nil hp] at hs
  obtain ⟨busy, fault, course⟩ | ⟨idle, flags⟩ := h
  · obtain ⟨u, hu, hcourse⟩ := course.advance.exec busy fault
    rw [hu] at hs
    cases hs
    exact hcourse
  · rw [idle] at hs
    cases hs
    exact .inr ⟨idle, flags⟩

theorem State.OnCourseOrEnded.runSteps {k : Nat} {s t : State} (h : s.OnCourseOrEnded) (hp : s.pending = [])
    (hs : runSteps k s = .next t) : t.OnCourseOrEnded := by
  induction k generalizing s with
  | zero =>
    cases hs
    exact h
  | succ k ih =>
    obtain ⟨u, hu, hrest⟩ := runSteps_succ hs
    exact ih (h.step hp hu) (pending_nil_of_step hp hu) hrest

/-- Settles O53: from its acceptance a conversion stays on its course until it ends. -/
theorem onlyOutputOverflowCanFault : Obligations.OnlyOutputOverflowCanFault := by
  intro s t k hs ht
  have start : s.OnCourseOrEnded := .inl ⟨hs.busy_set, hs.fault_clear, hs.at_decompose ▸ .prepares .decompose (by decide)⟩
  obtain ⟨-, hfault, -⟩ | ⟨-, h⟩ := start.runSteps hs.pending_empty ht
  · exact .inl hfault
  · exact h

end Sys2Proof.Machine

namespace Sys2Proof.Machine

/-! ### The layouts (46_emitter.md R116 to R121) -/

section
variable {n : Nat} {k : Int} (d : List Byte) (neg : Bool)

theorem layoutText_of_plain (h : 0 ≤ k ∧ expMagnitude n k < n + 7) : layoutText d n k neg = plainText d k := by
  have hsel : selectLayout n k = .plain := if_pos h
  rw [layoutText, hsel]

theorem layoutText_of_fixed (h : k < 0 ∧ (-7 < k ∨ expMagnitude n k < 4)) : layoutText d n k neg = fixedText d n k := by
  have hplain : ¬ (0 ≤ k ∧ expMagnitude n k < n + 7) := by omega
  have hsel : selectLayout n k = .fixed := (if_neg hplain).trans (if_pos h)
  rw [layoutText, hsel]

theorem layoutText_of_scientific (hplain : ¬ (0 ≤ k ∧ expMagnitude n k < n + 7))
    (hfixed : ¬ (k < 0 ∧ (-7 < k ∨ expMagnitude n k < 4))) : layoutText d n k neg = scientificText d n k neg := by
  have hsel : selectLayout n k = .scientific := (if_neg hplain).trans (if_neg hfixed)
  rw [layoutText, hsel]

/-- A text of FIXED below 1 (R118). -/
theorem fixedText_of_below_one (h : n + k ≤ 0) :
    fixedText d n k = [Ascii.zero, Ascii.dot] ++ List.replicate (k.natAbs - n) Ascii.zero ++ d := by
  have hzeros : (-(n + k)).toNat = k.natAbs - n := by omega
  rw [fixedText, if_pos h, hzeros]

/-- A text of FIXED from 1 on (R119). -/
theorem fixedText_of_one_le (h : 1 ≤ n + k) :
    fixedText d n k = d.take (n + k).toNat ++ [Ascii.dot] ++ d.drop (n + k).toNat :=
  if_neg (by omega)

end

/-- R120: outside FIXED the cap does not change the exponent's sign: it drops at most one digit, and where that digit would decide,
K = 1 - n, whose layout is FIXED. -/
theorem capped_exponent_neg_iff {n : Nat} {k : Int} (neg : Bool) (hn : n ≤ 18)
    (hfixed : ¬ (k < 0 ∧ (-7 < k ∨ expMagnitude n k < 4))) : k + cappedDigits n neg - 1 < 0 ↔ k + n - 1 < 0 := by
  have hcap : cappedDigits n neg = n ∨ cappedDigits n neg = 17 ∧ n = 18 := by
    cases neg <;> simp only [cappedDigits, if_true, Bool.false_eq_true, if_false] <;> omega
  rw [expMagnitude] at hfixed
  omega

theorem expDigits_of_lt_ten {x : Nat} (h : x < 10) : expDigits x = [digitByte x] := by
  have h10 : ¬ (9 < x ∨ 99 < x) := by omega
  have h100 : ¬ 99 < x := by omega
  simp only [expDigits, if_neg h10, if_neg h100, Nat.mod_eq_of_lt h, List.nil_append]

theorem expDigits_of_lt_hundred {x : Nat} (h10 : 10 ≤ x) (h : x < 100) :
    expDigits x = [digitByte (x / 10), digitByte (x % 10)] := by
  have h9 : 9 < x ∨ 99 < x := by omega
  have h100 : ¬ 99 < x := by omega
  have htens : x / 10 < 10 := by omega
  simp only [expDigits, if_pos h9, if_neg h100, Nat.mod_eq_of_lt htens, List.nil_append, List.singleton_append]

theorem expDigits_of_hundred_le {x : Nat} (h : 100 ≤ x) :
    expDigits x = [digitByte (x / 100), digitByte (x / 10 % 10), digitByte (x % 10)] := by
  have h10 : 9 < x ∨ 99 < x := by omega
  have h100 : 99 < x := by omega
  simp only [expDigits, if_pos h10, if_pos h100, List.cons_append, List.nil_append]

/-- Settles O45: each layout's own text, the exponent's sign by `capped_exponent_neg_iff`. -/
theorem emitterLayouts : Obligations.EmitterLayouts := by
  refine ⟨?_, fun x _ => ⟨expDigits_of_lt_ten, expDigits_of_lt_hundred, expDigits_of_hundred_le⟩⟩
  intro d n k neg _ _ hn exp isPlain isFixed
  refine ⟨layoutText_of_plain d neg, ?_, ?_, ?_⟩
  · exact fun hfixed h => (layoutText_of_fixed d neg hfixed).trans (fixedText_of_below_one d h)
  · exact fun hfixed h => (layoutText_of_fixed d neg hfixed).trans (fixedText_of_one_le d h)
  · intro hplain hfixed nc
    rw [layoutText_of_scientific d neg hplain hfixed, scientificText]
    simp only [capped_exponent_neg_iff neg hn hfixed]
    rfl

/-! ### The length of a text (R122) -/

theorem length_expDigits_le (x : Nat) : (expDigits x).length ≤ 3 := by
  rw [expDigits]
  split_ifs <;> simp

theorem length_plainText (d : List Byte) (k : Int) : (plainText d k).length = d.length + k.toNat := by
  rw [plainText, List.length_append, List.length_replicate]

theorem length_signText_le (neg : Bool) : (signText neg).length ≤ 1 := by
  cases neg <;> decide

theorem signText_length_eq_one_iff (neg : Bool) : (signText neg).length = 1 ↔ neg = true := by
  cases neg <;> decide

/-- The cap makes room for the value's sign (R120). -/
theorem length_signText_add_cappedDigits_le (n : Nat) (neg : Bool) : (signText neg).length + cappedDigits n neg ≤ 18 := by
  cases neg with
  | false => exact (Nat.zero_add _).trans_le (Nat.min_le_right n 18)
  | true => exact Nat.add_le_add_left (Nat.min_le_right n 17) 1

section
variable {d : List Byte} {n : Nat} {k : Int} {neg : Bool}

/-- FIXED has at most four bytes beside the digits, or eight bytes in all. -/
theorem length_fixedText_le (hd : d.length = n) (hn : n ≤ 18) (h : k < 0 ∧ (-7 < k ∨ expMagnitude n k < 4)) :
    (fixedText d n k).length ≤ 22 := by
  rw [expMagnitude] at h
  rcases Int.lt_or_le 0 (n + k) with hone | hbelow
  · rw [fixedText_of_one_le d hone]
    simp only [List.length_append, List.length_take, List.length_drop, List.length_singleton, hd]
    omega
  · rw [fixedText_of_below_one d hbelow]
    simp only [List.length_append, List.length_replicate, List.length_cons, List.length_nil, hd]
    omega

/-- SCIENTIFIC has at most the capped digits, a dot, 'e', a sign and three exponent digits. -/
theorem length_scientificText_le : (signText neg).length + (scientificText d n k neg).length ≤ 24 := by
  have hexp := length_expDigits_le (expMagnitude n k)
  have hcapped := length_signText_add_cappedDigits_le n neg
  have hfraction : (if 1 < cappedDigits n neg then Ascii.dot :: (d.take (cappedDigits n neg)).drop 1 else []).length ≤
      cappedDigits n neg := by
    split_ifs
    · rw [List.length_cons, List.length_drop, List.length_take]
      omega
    · exact Nat.zero_le _
  simp only [scientificText, List.length_append, List.length_take, List.length_cons, List.length_nil]
  omega

end

/-- Settles O46: only PLAIN's n + K ≤ 25 bytes can leave no room for the sign. -/
theorem textFitsBuffer : Obligations.TextFitsBuffer := by
  intro d n k neg hd _ hn _
  have hsign := length_signText_le neg
  have hneg := signText_length_eq_one_iff neg
  rw [finiteText, List.length_append, ← hneg]
  by_cases hplain : 0 ≤ k ∧ expMagnitude n k < n + 7
  · rw [layoutText_of_plain d neg hplain, length_plainText, hd]
    rw [expMagnitude] at hplain
    omega
  have hk : ¬ (n = 18 ∧ k = 7) := by
    rintro ⟨rfl, rfl⟩
    exact hplain (by decide)
  by_cases hfixed : k < 0 ∧ (-7 < k ∨ expMagnitude n k < 4)
  · have := length_fixedText_le hd hn hfixed
    rw [layoutText_of_fixed d neg hfixed]
    omega
  · have := length_scientificText_le (d := d) (n := n) (k := k) (neg := neg)
    rw [layoutText_of_scientific d neg hplain hfixed]
    omega

/-! ### EMIT (R124, R136) -/

theorem digits_eq_take (s : State) {n : Nat} (h : n ≤ 18) : digits s n = s.dig.toList.take n := by
  refine List.ext_getElem (by simp [h]) fun i hi _ => ?_
  have hi18 : i < 18 := by rw [digits_length] at hi; omega
  simp only [digits, List.getElem_map, List.getElem_range, digAt_of_lt s hi18, List.getElem_take, Vector.getElem_toList]

/-- A text that fits OUT is written whole, and no byte past it is touched (R124, 47_top_level.md R132). -/
theorem wrote_writeText {text : List Byte} (h : text.length ≤ 25) (s : State) : s.Wrote text (writeText text s) := by
  refine ⟨toNat_toU5_length h, textOf_writeText h s, fun i hi hle => ?_⟩
  have hpast : ¬ (0 ≤ i ∧ i < 0 + text.length) := by omega
  rw [writeText_out, getElem_writeBytes, dif_neg hpast]

section
variable {s : State}

theorem exec_emit_of_no_digits (h : s.ndig = 0) : exec .emit s = .next (raiseFault .noDigits s) := by
  simp only [exec, execEmit, if_pos h]

theorem exec_emit_of_large_exponent (h : s.ndig ≠ 0) (hexp : 999 < expMagnitude s.ndig.toNat s.kexp.toInt) :
    exec .emit s = .next (raiseFault .outputOverflow s) := by
  simp only [exec, execEmit, if_neg h, if_pos hexp]

variable {text : List Byte} (htext : finiteText (digits s s.ndig.toNat) s.ndig.toNat s.kexp.toInt s.neg = text)
  (h : s.ndig ≠ 0)
include htext h

theorem exec_emit_of_long_text (hlong : 25 < text.length) : exec .emit s = .next (raiseFault .outputOverflow s) := by
  simp only [exec, execEmit, htext, if_neg h, if_pos hlong, ite_self]

theorem exec_emit_of_fit (hexp : expMagnitude s.ndig.toNat s.kexp.toInt ≤ 999) (hfit : text.length ≤ 25) :
    exec .emit s = .next (complete (writeText text s)) := by
  simp only [exec, execEmit, htext, if_neg h, if_neg (Nat.not_lt.mpr hexp), if_neg (Nat.not_lt.mpr hfit)]

end

/-- Settles O47: R124's checks in order, each with its own case of EMIT. -/
theorem emitWritesTextOrFaults : Obligations.EmitWritesTextOrFaults := by
  intro s hn n k text
  have htext : finiteText (digits s n) n k s.neg = text := by
    rw [digits_eq_take s hn]
    rfl
  exact ⟨exec_emit_of_no_digits, exec_emit_of_large_exponent, fun h _ => exec_emit_of_long_text htext h,
    fun h hexp hfit => ⟨_, exec_emit_of_fit htext h hexp hfit, wrote_writeText hfit s, rfl⟩⟩

end Sys2Proof.Machine

namespace Sys2Proof.Machine

/-! ### What a host's form does (47_top_level.md R127 to R131, R139 to R143) -/

/-- The effects a host access or a command word can have. -/
inductive HostEffect (i : Instr) (s t : State) : Prop where
  | reads (v : U64) (eq : t = returnData v s)
  | writesIn (v : U64) (form : i = .wrIn v) (eq : t = { s with inReg := v })
  | ignored (eq : t = s)
  | rejects (eq : t = rejectCommand s)
  | accepts (form : i = .convert ∨ i = .wrCmd 1) (idle : s.busy = false) (eq : t = acceptConvert s)

theorem exec_host_effect {i : Instr} {s t : State} (hi : (encode i).format ≠ .uop) (h : exec i s = .next t) :
    HostEffect i s t := by
  cases i with
  | wrIn v => cases h; exact .writesIn v rfl rfl
  | wrCmd v =>
    cases h
    obtain ⟨-, eq⟩ | ⟨rfl, idle, eq⟩ | ⟨-, -, eq⟩ | ⟨-, -, eq⟩ := writeCommand_cases v s
    · exact .ignored eq
    · exact .accepts (.inr rfl) idle eq
    · exact .rejects eq
    · exact .rejects eq
  | convert =>
    cases h
    cases hb : s.busy with
    | false => exact .accepts (.inl rfl) hb (convertCommand_idle hb)
    | true => exact .rejects (convertCommand_busy hb)
  | reservedCmd => cases h; exact .rejects rfl
  | nop | wrIgnored110 | wrIgnored120 | wrIgnored140 | wrIgnored180 => cases h; exact .ignored rfl
  | notAdmitted1 | notAdmitted2 | notAdmitted4 => cases h
  | idle | decompose | special | bounds | normw | pinit | pwalk | mulw | mulu | mull | setup | dgint | dgfrac | round | emit
  | reservedUop => exact absurd rfl hi
  | _ => cases h; exact .reads _ rfl

/-- Only a write of IN changes IN (R139, R140). -/
theorem exec_inReg {i : Instr} {s t : State} (h : exec i s = .next t) (hw : ∀ v, i ≠ .wrIn v) : t.inReg = s.inReg := by
  by_cases hi : (encode i).format = .uop
  · obtain ⟨c, rfl⟩ := exists_decode_of_format hi
    obtain ⟨hin, -⟩ := exec_uop_frame h
    exact hin
  · obtain ⟨v, rfl⟩ | ⟨v, form, -⟩ | ⟨rfl⟩ | ⟨rfl⟩ | ⟨-, -, rfl⟩ := exec_host_effect hi h
    · rfl
    · exact absurd form (hw v)
    · rfl
    · rfl
    · rfl

/-- Settles O12: a read returns the register, which `exec_inReg` keeps between the writes. -/
theorem readsOfInAndCmd : Obligations.ReadsOfInAndCmd := by
  refine ⟨fun _ => rfl, fun _ => rfl, fun s t v h => ?_, fun _ _ _ => exec_inReg, rfl⟩
  cases h
  rfl

/-- Only an accepted CONVERT clears CMD_ERR (R128, R130). -/
theorem exec_cmdErr_sticks {i : Instr} {s t : State} (hs : s.cmdErr = true) (h : exec i s = .next t) :
    t.cmdErr = true ∨ (s.busy = false ∧ (i = .convert ∨ i = .wrCmd 1)) := by
  by_cases hi : (encode i).format = .uop
  · obtain ⟨c, rfl⟩ := exists_decode_of_format hi
    obtain ⟨-, herr, -⟩ := exec_uop_frame h
    exact .inl (herr.trans hs)
  · obtain ⟨v, rfl⟩ | ⟨v, -, rfl⟩ | ⟨rfl⟩ | ⟨rfl⟩ | ⟨form, idle, -⟩ := exec_host_effect hi h
    · exact .inl hs
    · exact .inl hs
    · exact .inl hs
    · exact .inl rfl
    · exact .inr ⟨idle, form⟩

/-! ### The commands (R127 to R131) -/

section
variable {s : State}

theorem exec_convert_of_idle (h : s.busy = false) : exec .convert s = .next (acceptConvert s) :=
  congrArg _ (convertCommand_idle h)

theorem exec_convert_of_busy (h : s.busy = true) : exec .convert s = .next (rejectCommand s) :=
  congrArg _ (convertCommand_busy h)

theorem decode_reserved {v : U64} (h0 : v ≠ 0) (h1 : v ≠ 1) : decode (.cmd v) = .reservedCmd v := by
  rw [decode, decodeCmd, if_neg h0, if_neg h1]

/-- A write to CMD has the effect of the command word it writes (R127). -/
theorem exec_wrCmd (v : U64) : exec (.wrCmd v) s = exec (decode (.cmd v)) s := by
  obtain ⟨rfl, eq⟩ | ⟨rfl, hb, eq⟩ | ⟨rfl, hb, eq⟩ | ⟨h0, h1, eq⟩ := writeCommand_cases v s
  · exact congrArg _ eq
  · exact (congrArg _ eq).trans (exec_convert_of_idle hb).symm
  · exact (congrArg _ eq).trans (exec_convert_of_busy hb).symm
  · rw [decode_reserved h0 h1]
    exact congrArg _ eq

theorem exec_wrCmd_of_reserved {v : U64} (h0 : v ≠ 0) (h1 : v ≠ 1) : exec (.wrCmd v) s = .next (rejectCommand s) := by
  rw [exec_wrCmd, decode_reserved h0 h1]
  rfl

end

/-- Settles O21: `acceptConvert` makes R128's writes. -/
theorem convertIsAcceptedWhenIdle : Obligations.ConvertIsAcceptedWhenIdle := fun _ => exec_convert_of_idle

/-- Settles O22: a busy CONVERT is rejected, and no form but an accepted one clears CMD_ERR. -/
theorem convertIsRejectedWhenBusy : Obligations.ConvertIsRejectedWhenBusy :=
  ⟨fun _ => exec_convert_of_busy, fun _ _ _ => exec_cmdErr_sticks⟩

/-- Settles O20: the write runs the command that its word decodes to. -/
theorem commandWriteDecodesAtOnce : Obligations.CommandWriteDecodesAtOnce :=
  ⟨fun v => decode_encode (i := .wrCmd v) rfl, fun _ => exec_wrCmd, fun _ => exec_wrCmd 0,
    fun _ h => (exec_wrCmd 1).trans (exec_convert_of_idle h), fun _ h => (exec_wrCmd 1).trans (exec_convert_of_busy h),
    fun _ _ => exec_wrCmd_of_reserved⟩

/-- Settles O23: every word but 0 and 1 is a reserved one, and is rejected as a word and as a write. -/
theorem reservedWordSetsCmdErr : Obligations.ReservedWordSetsCmdErr := fun _ _ h0 h1 =>
  ⟨decode_reserved h0 h1, rfl, exec_wrCmd_of_reserved h0 h1⟩

/-- Settles O24: the word 0 decodes to NOP, whichever way it reaches CMD. -/
theorem nopChangesNothing : Obligations.NopChangesNothing := fun _ => ⟨rfl, exec_wrCmd 0⟩

/-- Settles O18: WR_IN is that write (R140). -/
theorem writeInStores : Obligations.WriteInStores := fun _ _ => rfl

/-! ### Unmapped and read-only offsets (R143) -/

/-- The rows of the unmapped reads by REG (30_encoding.md R65). -/
theorem unmapped_reg_cases : ∀ reg : BitVec 5, 11 ≤ reg.toNat →
    reg = 11#5 ∨ (∃ lo : BitVec 2, reg = 0b011#3 ++ lo) ∨ ∃ lo : BitVec 4, reg = 1#1 ++ lo := by
  decide

/-- DATA sent with a read is dropped: the code decodes to the read that encodes to it (R64). -/
theorem decode_read_code {i : Instr} {code : BitVec 9} (hi : i.wellFormed = true) (he : encode i = .hacc code 0) (data : U64) :
    decode (.hacc code data) = i.withData data := by
  rw [← decode_encode hi, he]
  exact (withData_decodeHacc code 0 data).symm

theorem exec_unmapped_read {reg : BitVec 5} (h : 11 ≤ reg.toNat) (data : U64) (s : State) :
    exec (decode (.hacc (haccCode 0#1 reg) data)) s = .next (returnData 0 s) := by
  obtain rfl | ⟨lo, rfl⟩ | ⟨lo, rfl⟩ := unmapped_reg_cases reg h
  · rw [decode_read_code (i := .rdUnmapped58) rfl rfl]
    rfl
  · rw [decode_read_code (i := .rdUnmapped60 lo) rfl rfl]
    rfl
  · rw [decode_read_code (i := .rdUnmapped80 lo) rfl rfl]
    rfl

theorem exec_ignored_write {reg : BitVec 5} (h : 2 ≤ reg.toNat) (data : U64) (s : State) :
    exec (decode (.hacc (haccCode 1#1 reg) data)) s = .next s := by
  obtain rfl | rfl | ⟨lo, rfl⟩ | ⟨lo, rfl⟩ | ⟨lo, rfl⟩ | ⟨lo, rfl⟩ := write_reg_cases reg
  · exact absurd h (by decide)
  · exact absurd h (by decide)
  · exact congrArg (exec · s) (decode_encode (i := .wrIgnored110 lo data) rfl)
  · exact congrArg (exec · s) (decode_encode (i := .wrIgnored120 lo data) rfl)
  · exact congrArg (exec · s) (decode_encode (i := .wrIgnored140 lo data) rfl)
  · exact congrArg (exec · s) (decode_encode (i := .wrIgnored180 lo data) rfl)

/-- Settles O17: REG selects an unmapped read's row or an ignored write's. -/
theorem unmappedAndReadOnlyOffsets : Obligations.UnmappedAndReadOnlyOffsets :=
  ⟨fun s _ data h => exec_unmapped_read h data s, fun s _ data h => exec_ignored_write h data s,
    fun _ => rfl, fun _ _ => rfl, fun _ _ => rfl, fun _ _ _ => rfl, fun _ _ _ => rfl, fun _ _ _ => rfl, fun _ _ _ => rfl⟩

end Sys2Proof.Machine

namespace Sys2Proof.Machine

/-! ### What the next event presents to the decoder -/

theorem nextEvent_of_fetch_hacc {s : State} {code : BitVec 9} {data : U64} (h : fetch s = .form (.hacc code data)) :
    nextEvent s = .access 64 code data := by
  unfold fetch at h
  split at h
  case h_3 bits c d he =>
    split at h
    case isTrue hb => cases h; rw [he, hb]
    case isFalse => cases h
  all_goals cases h

theorem nextEvent_of_fetch_cmd {s : State} {word : U64} (h : fetch s = .form (.cmd word)) : nextEvent s = .command word := by
  unfold fetch at h
  split at h
  case h_2 he => cases h; exact he
  case h_3 => split at h <;> cases h
  all_goals cases h

/-! ### A step by the next event (log 1) -/

section
variable {s : State} {p : List Event}

/-- The sequencer's turn runs STATE's micro-operation (47_top_level.md R134). -/
theorem step_of_turn (h : nextEvent s = .turn) (hp : remaining s.pending = p) :
    step s = exec (decode (.uop s.stateCode)) { s with pending := p, tick := s.tick + 1 } := by
  subst hp
  exact step_of_form (by simp [fetch, h])

/-- A command word decodes to its command (30_encoding.md R67). -/
theorem step_of_command {word : U64} (h : s.pending = .command word :: p) :
    step s = exec (decode (.cmd word)) { s with pending := p, tick := s.tick + 1 } := by
  have hf : fetch s = .form (.cmd word) := by simp [fetch, nextEvent_of_cons h rfl]
  rw [step_of_form hf, advance, h, remaining_of_cons p rfl]

/-- An admitted access decodes to its operation (30_encoding.md R65). -/
theorem step_of_admitted {code : BitVec 9} {data : U64} (haln : code.extractLsb' 0 3 = 0)
    (h : s.pending = .access 64 code data :: p) :
    step s = exec (decode (.hacc code data)) { s with pending := p, tick := s.tick + 1 } := by
  have he : (Event.access 64 code data).sticksHost = false := by simp [Event.sticksHost, admitted, haln]
  rw [step_of_form (fetch_of_access (nextEvent_of_cons h he)), advance, h, remaining_of_cons p he]

variable {e : Event} {rest : List Event} (hp : s.pending = e :: rest) (he : e.sticksHost = true)
include hp he

/-- Behind a stuck host the oldest pending turn is taken, and the host's events stay (log 8). -/
theorem step_of_stuck_turn {before after : List Event} (hrest : rest = before ++ .turn :: after)
    (hb : ∀ e' ∈ before, e'.isHost = true) :
    step s = exec (decode (.uop s.stateCode)) { s with pending := e :: (before ++ after), tick := s.tick + 1 } := by
  have hskip : ∀ e' ∈ before, ¬ (!e'.isHost) = true := by simpa using hb
  refine step_of_turn ?next ?rem
  case next =>
    have hfind : rest.find? (!·.isHost) = some .turn := by
      rw [hrest, List.find?_append, List.find?_eq_none.mpr hskip]
      rfl
    simp [nextEvent, hp, he, hfind]
  case rem =>
    rw [hp, remaining, if_pos he, hrest, List.eraseP_append_right _ hskip]
    rfl

/-- With none pending a running sequencer goes on (70_reset_and_hazards.md R171). -/
theorem step_of_stuck_running (hr : ∀ e' ∈ rest, e'.isHost = true) (hc : s.stateCode ≠ Uop.idle) :
    step s = exec (decode (.uop s.stateCode)) { s with tick := s.tick + 1 } := by
  have hrem : remaining s.pending = s.pending := by rw [hp, remaining_of_stuck he hr]
  exact step_of_turn (nextEvent_of_stuck hp he hr hc) hrem

end

/-- With none pending and the sequencer in IDLE no agent has a step (20_memory.md R49). -/
theorem step_of_stuck_idle {s : State} {bits : Nat} {code : BitVec 9} {data : U64} {rest : List Event}
    (hp : s.pending = .access bits code data :: rest) (hb : bits ≠ 64 ∨ code.extractLsb' 0 3 ≠ 0)
    (hr : ∀ e ∈ rest, e.isHost = true) (hc : s.stateCode = Uop.idle) : step s = .fault .hostStuck := by
  have he := (sticksHost_access data).mpr hb
  have hfind : rest.find? (!·.isHost) = none := by simpa using hr
  have hn : nextEvent s = .access bits code data := by simp [nextEvent, hp, he, hfind, hc]
  by_cases h64 : bits = 64
  · subst h64
    rw [step_of_form (fetch_of_access hn)]
    exact exec_hacc_of_aln_ne (hb.resolve_left (by simp)) data _
  · exact step_of_notAdmitted (by simp [fetch, hn, h64])

/-- Settles O4: each shape of the pending list has its own rule of the step. -/
theorem stepRunsDecodedForm : Obligations.StepRunsDecodedForm := by
  intro s rest
  refine ⟨fun _ _ => step_of_admitted, fun _ => step_of_command, fun hp => ?turn, fun hp => ?none, fun bits code data hb hp => ?_⟩
  case turn => exact step_of_turn (nextEvent_of_cons hp rfl) (by rw [hp]; rfl)
  case none => exact step_of_turn (nextEvent_of_nil hp) (by rw [hp]; rfl)
  have he := (sticksHost_access data).mpr hb
  exact ⟨fun _ _ => step_of_stuck_turn hp he, step_of_stuck_running hp he, step_of_stuck_idle hp hb⟩

/-! ### Leaving IDLE (47_top_level.md R128, R135) -/

/-- A command word that decodes to CONVERT, or to the write of its word, is the word 1 (30_encoding.md R68). -/
theorem word_eq_one {word : U64} (h : decode (.cmd word) = .convert ∨ decode (.cmd word) = .wrCmd 1) : word = 1 := by
  have henc := encode_decode_cmd word
  obtain h | h := h <;> rw [h] at henc <;> cases henc
  rfl

/-- An access that decodes to CONVERT's write is the one of the word 1 at offset 0x08 (R64, R65). -/
theorem access_eq_convert {code : BitVec 9} {data : U64}
    (h : decode (.hacc code data) = .convert ∨ decode (.hacc code data) = .wrCmd 1) : code = 0x108 ∧ data = 1 := by
  obtain ⟨data', henc, hdata⟩ := encode_decode_hacc code data
  obtain h | h := h <;> rw [h] at henc <;> cases henc
  exact ⟨rfl, (hdata (.inl rfl)).symm⟩

/-- The event of an accepted CONVERT. -/
theorem nextEvent_of_accepted {s : State} {e : Enc} (hf : fetch s = .form e) (h : decode e = .convert ∨ decode e = .wrCmd 1) :
    nextEvent s = .command 1 ∨ nextEvent s = .access 64 0x108 1 := by
  cases e with
  | uop c =>
    have hfmt := format_encode_decode (.uop c)
    obtain h | h := h <;> rw [h] at hfmt <;> cases hfmt
  | cmd word => exact .inl (word_eq_one h ▸ nextEvent_of_fetch_cmd hf)
  | hacc code data =>
    obtain ⟨rfl, rfl⟩ := access_eq_convert h
    exact .inr (nextEvent_of_fetch_hacc hf)

/-- Settles O25: of the steps from IDLE, a turn, a reset and every form of the host but the accepted CONVERT leave STATE in IDLE. -/
theorem onlyConvertLeavesIdle : Obligations.OnlyConvertLeavesIdle := by
  refine ⟨fun _ => rfl, fun s t hs hstep ht => ?_⟩
  obtain ⟨e, hf, he⟩ | ⟨-, rfl⟩ := step_cases hstep
  case inr => exact absurd rfl ht
  by_cases hfmt : (encode (decode e)).format = .uop
  · rw [format_encode_decode] at hfmt
    cases e with
    | hacc | cmd => cases hfmt
    | uop c =>
      obtain rfl : c = Uop.idle := (stateCode_of_fetch_uop hf).trans hs
      cases he
      exact absurd hs ht
  · obtain eq | ⟨hbusy, hform, rfl⟩ := exec_host_cases hfmt he
    · rw [eq] at ht
      exact absurd hs ht
    · exact ⟨hbusy, nextEvent_of_accepted hf hform, rfl, rfl, rfl⟩

end Sys2Proof.Machine

namespace Sys2Proof.Machine

/-! ### The next micro-operation (47_top_level.md R134) -/

/-- R134's table: the STATE codes that may follow a code where no fault is raised. -/
def successors (c : BitVec 4) : List (BitVec 4) :=
  match c.toNat with
  | 0x1 => [Uop.bounds, Uop.special]
  | 0x2 => [Uop.idle]
  | 0x3 => [Uop.normw]
  | 0x4 => [Uop.pinit]
  | 0x5 => [Uop.pwalk]
  | 0x6 => [Uop.pwalk, Uop.mulw]
  | 0x7 => [Uop.mulu]
  | 0x8 => [Uop.mull]
  | 0x9 => [Uop.setup]
  | 0xA => [Uop.dgint]
  | 0xB => [Uop.round, Uop.dgfrac, Uop.dgint]
  | 0xC => [Uop.round, Uop.dgfrac]
  | 0xD => [Uop.round, Uop.emit]
  | 0xE => [Uop.idle]
  | _ => []

/-- Where a micro-operation leads: on to one of these codes, FAULT and X as they were, or to a guard fault where it has one. -/
inductive LeadsTo (codes : List (BitVec 4)) (canFault : Bool) (s t : State) : Prop where
  | next (mem : t.stateCode ∈ codes) (fault : t.fault = s.fault) (x : t.x = s.x)
  | faults (guarded : canFault = true) (c : FaultCause) (eq : t = raiseFault c s)

section
variable {s t : State}

theorem execDecompose_leadsTo (h : execDecompose s = .next t) : LeadsTo [Uop.bounds, Uop.special] false s t := by
  cases h
  refine .next ?_ rfl rfl
  dsimp only
  split <;> simp

theorem execPwalk_leadsTo (h : execPwalk s = .next t) : LeadsTo [Uop.pwalk, Uop.mulw] true s t := by
  simp only [execPwalk] at h
  split_ifs at h <;> cases h
  · exact .faults rfl _ rfl
  · exact .next (by simp) rfl rfl
  · exact .next (by simp) rfl rfl
  · exact .next (by simp) rfl rfl

theorem execDgint_leadsTo (h : execDgint s = .next t) : LeadsTo [Uop.round, Uop.dgfrac, Uop.dgint] true s t := by
  simp only [execDgint] at h
  split at h
  case h_1 => cases h; exact .faults rfl _ rfl
  case h_2 a ha =>
    obtain ⟨dig, n, rfl, -⟩ := appendDigit_some ha
    split_ifs at h <;> cases h
    · exact .next (by simp) rfl rfl
    · exact .next (by simp) rfl rfl
    · exact .next (by simp) rfl rfl

theorem execDgfrac_leadsTo (h : execDgfrac s = .next t) : LeadsTo [Uop.round, Uop.dgfrac] true s t := by
  simp only [execDgfrac] at h
  split at h
  case h_1 => cases h; exact .faults rfl _ rfl
  case h_2 a ha =>
    obtain ⟨dig, n, rfl, -⟩ := appendDigit_some ha
    split_ifs at h <;> cases h
    · exact .next (by simp) rfl rfl
    · exact .next (by simp) rfl rfl

theorem execRound_leadsTo (h : execRound s = .next t) : LeadsTo [Uop.round, Uop.emit] true s t := by
  simp only [execRound] at h
  split_ifs at h <;> cases h
  · exact .faults rfl _ rfl
  · exact .faults rfl _ rfl
  · exact .next (by simp) rfl rfl
  · exact .next (by simp) rfl rfl

theorem execEmit_leadsTo (h : execEmit s = .next t) : LeadsTo [Uop.idle] true s t := by
  simp only [execEmit] at h
  split_ifs at h <;> cases h
  · exact .faults rfl _ rfl
  · exact .faults rfl _ rfl
  · exact .faults rfl _ rfl
  · exact .next (by simp) rfl rfl

end

/-- The codes of the micro-operations that have a guard fault (60_exceptions.md R144). -/
def hasGuard (c : BitVec 4) : Bool := c.toNat ∈ [0x6, 0xB, 0xC, 0xD, 0xE]

theorem exec_uop_leadsTo {c : BitVec 4} {s t : State} (hc : c ≠ Uop.idle) (h : exec (decode (.uop c)) s = .next t) :
    LeadsTo (successors c) (hasGuard c) s t := by
  have hn : c.toNat ≠ 0 := by bv_omega
  simp only [decode, decodeUop] at h
  unfold successors hasGuard
  generalize c.toNat = n at *
  split at h
  case h_1 => exact absurd rfl hn
  case h_2 => exact execDecompose_leadsTo h
  case h_7 => exact execPwalk_leadsTo h
  case h_12 => exact execDgint_leadsTo h
  case h_13 => exact execDgfrac_leadsTo h
  case h_14 => exact execRound_leadsTo h
  case h_15 => exact execEmit_leadsTo h
  case h_16 => cases h
  all_goals cases h; exact .next (List.mem_singleton_self _) rfl rfl

/-- Settles O26: without a fault the step goes to one of `successors`, which are R134's pairs; a fault is one of a guard. -/
theorem nextMicroOperation : Obligations.NextMicroOperation := by
  intro s t hs h
  by_cases hidle : s.stateCode = Uop.idle
  · rw [hidle] at h
    cases h
    exact ⟨fun _ => by simp [hidle], fun ht => nomatch hs.symm.trans ht⟩
  obtain ⟨mem, fault, -⟩ | ⟨guarded, c, rfl⟩ := exec_uop_leadsTo hidle h
  · refine ⟨fun _ => ?_, fun ht => nomatch hs.symm.trans (fault.symm.trans ht)⟩
    generalize s.stateCode = c, t.stateCode = c' at mem ⊢
    revert c c'
    decide
  · exact ⟨nofun, fun _ => ⟨of_decide_eq_true guarded, rfl⟩⟩

end Sys2Proof.Machine

namespace Sys2Proof.Machine

/-! ### The sequencer alone, by turns and by steps -/

/-- With no next state the sequencer's turns leave the state. -/
theorem sequencerRun_of_stuck {s : State} (h : ∀ t, exec (decode (.uop s.stateCode)) s ≠ .next t) (k : Nat) :
    sequencerRun k s = s := by
  cases k with
  | zero => rfl
  | succ k =>
    rw [sequencerRun]
    split
    case h_1 t ht => exact absurd ht (h t)
    all_goals rfl

theorem sequencerRun_add (m n : Nat) (s : State) : sequencerRun (m + n) s = sequencerRun n (sequencerRun m s) := by
  induction m generalizing s with
  | zero => rw [Nat.zero_add, sequencerRun]
  | succ m ih =>
    by_cases h : ∃ t, exec (decode (.uop s.stateCode)) s = .next t
    · obtain ⟨t, ht⟩ := h
      rw [Nat.succ_add, sequencerRun_succ rfl ht, sequencerRun_succ rfl ht, ih]
    · have hstuck := not_exists.mp h
      rw [sequencerRun_of_stuck hstuck, sequencerRun_of_stuck hstuck, sequencerRun_of_stuck hstuck]

/-- The conversion is over: BUSY is clear, the sequencer is in IDLE, and DONE or FAULT is set (R136, 60_exceptions.md
R146). -/
def State.Ended (t : State) : Prop := t.busy = false ∧ t.stateCode = Uop.idle ∧ (t.done = true ∨ t.fault = true)

/-- A micro-operation that clears BUSY ends the conversion. -/
theorem UopEffect.ended {s t : State} (h : UopEffect s t) (hs : s.busy = true) (ht : t.busy = false) : t.Ended := by
  cases h with
  | continues busy => exact nomatch ht.symm.trans (busy.trans hs)
  | faults c eq => subst eq; exact ⟨rfl, rfl, .inr rfl⟩
  | completes a eq => subst eq; exact ⟨rfl, rfl, .inl rfl⟩

/-- A conversion is on its way, or the sequencer is in IDLE. -/
def State.UnderWay (s : State) : Prop := s.stateCode = Uop.idle ∨ (s.busy = true ∧ ∃ n, s.StepsLeft s.stateCode n)

theorem State.Accepted.underWay {s : State} (h : s.Accepted) : s.UnderWay :=
  .inr ⟨h.busy_set, 48, h.at_decompose ▸ .decompose⟩

section
variable {s : State}

/-- The micro-operation of a conversion on its way ends it or has fewer steps left. -/
theorem State.StepsLeft.exec_ends {n : Nat} (left : s.StepsLeft s.stateCode n) (busy : s.busy = true) :
    ∃ t, Machine.exec (decode (.uop s.stateCode)) s = .next t ∧ t.x = s.x ∧
      (t.Ended ∨ (t.busy = true ∧ ∃ m < n, t.StepsLeft t.stateCode m)) := by
  obtain ⟨t, ht, hends⟩ := left.exec
  have hx : t.x = s.x := by
    obtain ⟨-, -, hx⟩ | ⟨-, c, rfl⟩ := exec_uop_leadsTo left.ne_idle ht
    · exact hx
    · rfl
  refine ⟨t, ht, hx, ?_⟩
  cases hb : t.busy with
  | false => exact .inl ((exec_uop_effect left.ne_idle ht).ended busy hb)
  | true => exact .inr ⟨rfl, hends hb⟩

theorem State.UnderWay.exec (h : s.UnderWay) : ∃ t, Machine.exec (decode (.uop s.stateCode)) s = .next t ∧ t.UnderWay := by
  obtain idle | ⟨busy, n, left⟩ := h
  · exact ⟨s, by rw [idle]; rfl, .inl idle⟩
  · obtain ⟨t, ht, -, ⟨-, idle, -⟩ | ⟨busy, m, -, left⟩⟩ := left.exec_ends busy
    · exact ⟨t, ht, .inl idle⟩
    · exact ⟨t, ht, .inr ⟨busy, m, left⟩⟩

theorem State.UnderWay.exec_sameButHost {s' t : State} (h : s.UnderWay) (hss : s.SameButHost s')
    (hs : Machine.exec (decode (.uop s.stateCode)) s = .next t) :
    ∃ t', Machine.exec (decode (.uop s.stateCode)) s' = .next t' ∧ t.SameButHost t' := by
  obtain idle | ⟨-, n, left⟩ := h
  · rw [idle] at hs ⊢
    cases hs
    exact ⟨s', rfl, hss⟩
  · exact left.exec_sameButHost hss hs

/-- With nothing pending the machine's steps are the sequencer's turns, but for the model's counter (logs 1, 5). -/
theorem State.UnderWay.runSteps {s' : State} (k : Nat) (h : s.UnderWay) (hss : s.SameButHost s') (hp : s'.pending = []) :
    ∃ t, Machine.runSteps k s' = .next t ∧ (sequencerRun k s).SameButHost t := by
  induction k generalizing s s' with
  | zero => exact ⟨s', rfl, hss⟩
  | succ k ih =>
    obtain ⟨t, ht, hway⟩ := h.exec
    obtain ⟨t', ht', hst⟩ := h.exec_sameButHost hss.advance ht
    have hcode : s'.stateCode = s.stateCode := by rw [hss]
    have hstep : step s' = .next t' := by rw [step_of_pending_nil hp, hcode, ht']
    rw [runSteps_succ_of_step hstep, sequencerRun_succ rfl ht]
    exact ih hway hst (pending_nil_of_step hp hstep)

theorem State.Accepted.runSteps (h : s.Accepted) (k : Nat) :
    ∃ t, Machine.runSteps k s = .next t ∧ (sequencerRun k s).SameButHost t :=
  h.underWay.runSteps k rfl h.pending_empty

/-! ### The bound (R138) -/

/-- The conversion ends within the steps it has left. -/
theorem State.StepsLeft.runs_to_end {n : Nat} (left : s.StepsLeft s.stateCode n) (busy : s.busy = true) (hp : s.pending = []) :
    ∃ k ≤ n, ∃ t, Machine.runSteps k s = .next t ∧ t.Ended ∧ t.x = s.x := by
  induction n using Nat.strong_induction_on generalizing s with
  | _ n ih =>
    have hadvance : (advance s).StepsLeft s.stateCode n := left.of_sameButHost rfl
    obtain ⟨u, hu, hx, hnext⟩ := hadvance.exec_ends busy
    have hstep : step s = .next u := (step_of_pending_nil hp).trans hu
    obtain hended | ⟨hbusy, m, hm, hleft⟩ := hnext
    · exact ⟨1, left.pos, u, runSteps_succ_of_step hstep 0, hended, hx⟩
    · obtain ⟨k, hk, t, ht, hended, hx'⟩ := ih m hm hleft hbusy (pending_nil_of_step hp hstep)
      exact ⟨k + 1, by omega, t, (runSteps_succ_of_step hstep k).trans ht, hended, hx'.trans hx⟩

end

/-- Settles O52: an accepted conversion has at most 48 steps left, and the last of them ends it. -/
theorem conversionEndsWithinBound : Obligations.ConversionEndsWithinBound := by
  intro s hs
  have hleft : s.StepsLeft s.stateCode 48 := hs.at_decompose ▸ .decompose
  obtain ⟨k, hk, t, ht, ⟨hbusy, hcode, hflags⟩, hx⟩ := hleft.runs_to_end hs.busy_set hs.pending_empty
  exact ⟨k, hk, t, ht, hbusy, hcode, hx, hflags⟩

end Sys2Proof.Machine

namespace Sys2Proof.Machine

/-! ### SPECIAL (47_top_level.md R132, R136, R137) -/

/-- The text SPECIAL writes, the free one of CLS = FINITE included (log 12). -/
def State.specialBytes (s : State) : List Byte :=
  specialText s.cls s.neg ((Config.specialOutside s.tick).take Config.outCapacity)

section
variable {s : State}

theorem specialBytes_of_nan (h : s.cls = .nan) : s.specialBytes = [0x4E, 0x61, 0x4E] := by
  rw [State.specialBytes, h]
  rfl

theorem specialBytes_of_infinite (h : s.cls = .infinite) : s.specialBytes = signText s.neg ++ [0x49, 0x6E, 0x66] := by
  rw [State.specialBytes, h]
  rfl

theorem specialBytes_of_zero (h : s.cls = .zero) : s.specialBytes = signText s.neg ++ [0x30] := by
  rw [State.specialBytes, h]
  rfl

end

/-- Settles O49: the text that CLS and NEG select is written, and `complete` ends the conversion. -/
theorem specialWritesFixedText : Obligations.SpecialWritesFixedText := by
  intro s sign
  have hwrote := wrote_writeText (specialText_length_le s.cls s.neg (Config.specialOutside s.tick)) s
  exact ⟨_, rfl, fun h => specialBytes_of_nan h ▸ hwrote, fun h => specialBytes_of_infinite h ▸ hwrote,
    fun h => specialBytes_of_zero h ▸ hwrote, rfl⟩

/-- DECOMPOSE of a special value (41_decomposer.md R80). -/
theorem exec_decompose_special {s : State} (h : classify (bexpOf s.x) (fracOf s.x) ≠ .finite) :
    ∃ d, exec .decompose s = .next { s with
      neg := signOf s.x, cls := classify (bexpOf s.x) (fracOf s.x), f := d, stateCode := Uop.special } := by
  simp only [exec, execDecompose, if_neg h]
  exact ⟨_, rfl⟩

/-- Settles O50: DECOMPOSE goes to SPECIAL with the input's class and sign, and SPECIAL writes the text they select. -/
theorem specialValuesTakeTwoSteps : Obligations.SpecialValuesTakeTwoSteps := by
  intro s hs hc sign
  obtain ⟨d, hdecompose⟩ := exec_decompose_special hc
  obtain ⟨u, hspecial, hnan, hinfinite, hzero, hframe⟩ := specialWritesFixedText _
  have hrun (k : Nat) := sequencerRun_succ (k := k) hs.at_decompose hdecompose
  have hrun2 := (hrun 1).trans (sequencerRun_succ (k := 0) rfl hspecial)
  obtain ⟨t, ht, hst⟩ := hs.runSteps 1
  obtain ⟨t2, ht2, hst2⟩ := hs.runSteps 2
  rw [hrun] at hst
  rw [hrun2] at hst2
  have hu : u.busy = false ∧ u.done = true ∧ u.fault = false ∧ u.stateCode = Uop.idle ∧ u.neg = signOf s.x ∧ u.ndig = 0 ∧
      u.kexp = 0 := by
    rw [hframe]
    exact ⟨rfl, rfl, hs.fault_clear, rfl, rfl, rfl, rfl⟩
  obtain ⟨hbusy, hdone, hfault, hcode, hneg, hndig, hkexp⟩ := hu
  refine ⟨t, t2, ht, (congrArg State.busy hst).trans hs.busy_set, congrArg State.stateCode hst, ht2, ?_⟩
  rw [hst2]
  exact ⟨hbusy, hdone, hfault, hcode, hneg, hndig, hkexp, fun h => (hnan h).2.1, fun h => (hinfinite h).2.1,
    fun h => (hzero h).2.1⟩

end Sys2Proof.Machine

namespace Sys2Proof.Machine

/-! ### The sign byte (46_emitter.md R123, 47_top_level.md R133) -/

/-- Every layout begins with the first digit or with '0' (46_emitter.md R117 to R120). -/
theorem head?_layoutText (b : Byte) (d : List Byte) (n : Nat) (k : Int) (neg : Bool) :
    (layoutText (b :: d) n k neg).head? = some b ∨ (layoutText (b :: d) n k neg).head? = some Ascii.zero := by
  unfold layoutText
  cases selectLayout n k with
  | plain => exact .inl rfl
  | scientific => exact .inl rfl
  | fixed =>
    rcases Int.lt_or_le 0 (n + k) with hone | hbelow
    · obtain ⟨i, hi⟩ : ∃ i, (n + k).toNat = i + 1 := ⟨(n + k).toNat - 1, by omega⟩
      dsimp only
      rw [fixedText_of_one_le _ hone, hi]
      exact .inl rfl
    · dsimp only
      rw [fixedText_of_below_one _ hbelow]
      exact .inr rfl

/-- So the sign byte is the only '-' a text can begin with. -/
theorem head?_finiteText_eq_minus_iff {b : Byte} (hb : 0x30 ≤ b.toNat) (d : List Byte) (n : Nat) (k : Int) (neg : Bool) :
    (finiteText (b :: d) n k neg).head? = some Ascii.minus ↔ neg = true := by
  cases neg with
  | true => exact iff_of_true rfl rfl
  | false =>
    refine iff_of_false (fun h => ?_) nofun
    obtain e | e := head?_layoutText b d n k false
    · obtain rfl : b = Ascii.minus := Option.some.inj (e.symm.trans h)
      exact absurd hb (by decide)
    · exact absurd (Option.some.inj (e.symm.trans h)) (by decide)

theorem digits_eq_cons (s : State) {n : Nat} (h : 1 ≤ n) : ∃ d, digits s n = s.dig[0] :: d := by
  obtain ⟨m, rfl⟩ : ∃ m, n = m + 1 := ⟨n - 1, by omega⟩
  exact ⟨_, by rw [digits, List.range_succ_eq_map, List.map_cons, digAt_of_lt s (by decide)]⟩

/-- EMIT without a fault has written its whole text (46_emitter.md R124). -/
theorem textOf_of_exec_emit {s t : State} {text : List Byte}
    (htext : finiteText (digits s s.ndig.toNat) s.ndig.toNat s.kexp.toInt s.neg = text) (hn : s.ndig ≠ 0)
    (h : exec .emit s = .next t) (ht : t.fault = false) : textOf t = text := by
  by_cases hexp : 999 < expMagnitude s.ndig.toNat s.kexp.toInt
  · rw [exec_emit_of_large_exponent hn hexp] at h
    cases h
    cases ht
  by_cases hlong : 25 < text.length
  · rw [exec_emit_of_long_text htext hn hlong] at h
    cases h
    cases ht
  · have hfit := Nat.le_of_not_lt hlong
    rw [exec_emit_of_fit htext hn (Nat.le_of_not_lt hexp) hfit] at h
    cases h
    exact textOf_writeText hfit s

/-- Settles O48: a completed EMIT wrote sign byte and layout, and no layout begins below '0'. -/
theorem emitSignByte : Obligations.EmitSignByte := by
  intro s t h1 _ hb h ht _
  obtain ⟨d, hd⟩ := digits_eq_cons s h1
  rw [textOf_of_exec_emit rfl (by bv_omega) h ht, hd]
  exact head?_finiteText_eq_minus_iff hb d _ _ _

end Sys2Proof.Machine

namespace Sys2Proof.Machine

/-! ### A finite value's way to the digit generator (R137) -/

/-- The three products in turn (44_multiplier.md R100 to R102). -/
theorem sequencerRun_multiplier {s : State} (h : s.stateCode = Uop.mulw) :
    sequencerRun 3 s = { s with w := mul s.w s.cp, u := mul s.u s.cp, l := mul s.l s.cp, stateCode := Uop.setup } := by
  refine (sequencerRun_succ (k := 2) h rfl).trans ?_
  exact (sequencerRun_succ (c := Uop.mulu) rfl rfl).trans (sequencerRun_succ (c := Uop.mull) rfl rfl)

/-- How SETUP leaves the digit generator's registers, and the ranges that follow from R94 and R103 (45_digit_generator.md R105). -/
structure State.DigitsReady (t : State) : Prop where
  at_dgint : t.stateCode = Uop.dgint
  kappa_eq : t.kappa = 10
  ndig_eq : t.ndig = 0
  cut_ge : 34 ≤ t.cut.toNat
  cut_le : t.cut.toNat ≤ 60
  delta_ge : 765 ≤ t.delta.toNat
  wfrac_ge : 510 ≤ t.wfrac.toNat
  wfrac_le : t.wfrac.toNat + 254 ≤ t.delta.toNat
  wsc_eq : t.wsc = t.wfrac
  p1_lt : t.p1.toNat < 2 ^ 30
  p2_lt : t.p2.toNat < 2 ^ t.cut.toNat
  split_eq : t.u.m.toNat = t.p1.toNat * 2 ^ t.cut.toNat + t.p2.toNat

theorem digitsReady_of_exec_setup {s t : State} (lo : -60 ≤ s.u.e.toInt) (hi : s.u.e.toInt ≤ -34)
    (hlw : s.l.m.toNat + 255 ≤ s.w.m.toNat) (hwu : s.w.m.toNat + 511 ≤ s.u.m.toNat) (hlu : s.l.m.toNat + 767 ≤ s.u.m.toNat)
    (h : exec .setup s = .next t) : t.DigitsReady := by
  obtain ⟨c, hc⟩ : ∃ c : Nat, -s.u.e.toInt = c := ⟨(-s.u.e.toInt).toNat, by omega⟩
  rw [setupPreparesDigits.1 s (by omega) (by omega) (by omega), hc, Int.toNat_natCast] at h
  cases h
  have hlt := s.u.m.isLt
  have hcut : (BitVec.ofNat 6 c).toNat = c := by rw [BitVec.toNat_ofNat]; omega
  have hmod : (s.u.m.toNat - 1) % 2 ^ c < 2 ^ c := Nat.mod_lt _ (Nat.two_pow_pos c)
  have hp1 := toNat_ofNat_u64 (n := (s.u.m.toNat - 1) / 2 ^ c) ((Nat.div_le_self _ _).trans_lt (by omega))
  have hp2 := toNat_ofNat_u64 (n := (s.u.m.toNat - 1) % 2 ^ c) ((Nat.mod_le _ _).trans_lt (by omega))
  have hu : (s.u.m - 1).toNat = s.u.m.toNat - 1 := by bv_omega
  have hdelta : (s.u.m - 1 - (s.l.m + 1)).toNat = s.u.m.toNat - 1 - (s.l.m.toNat + 1) := by bv_omega
  have hwfrac : (s.u.m - 1 - s.w.m).toNat = s.u.m.toNat - 1 - s.w.m.toNat := by bv_omega
  have hweight : 2 ^ 34 ≤ 2 ^ c := Nat.pow_le_pow_right (by decide) (by omega)
  have hhigh : (s.u.m.toNat - 1) / 2 ^ c < 2 ^ 30 := Nat.div_lt_of_lt_mul (by omega)
  constructor <;> simp only [hcut, hp1, hp2, hu, hdelta, hwfrac]
  case cut_ge => omega
  case cut_le => omega
  case delta_ge => omega
  case wfrac_ge => omega
  case wfrac_le => omega
  case p1_lt => exact hhigh
  case p2_lt => exact hmod
  case split_eq => exact (Nat.div_add_mod' _ _).symm

/-- The entry that PWALK takes is held exactly in CPM and CPE (43_cached_power.md R87). -/
theorem powEntry_toDec {i : Nat} (h : i ≤ 84) : (BitVec.ofNat 64 (powEntry i).1).toNat = (powEntry i).1 ∧
    (BitVec.ofInt 32 (powEntry i).2).toInt = (powEntry i).2 := by
  obtain ⟨-, hm, he0, he1⟩ := powEntry_range i (by omega)
  exact ⟨toNat_ofNat_u64 hm, toInt_toS32 (by omega) (by omega)⟩

section
variable {s : State}

/-- SETUP leaves the flags, the class and the sign (R105). -/
theorem exec_setup_frame (s : State) : ∃ t, exec .setup s = .next t ∧
    t.busy = s.busy ∧ t.fault = s.fault ∧ t.cls = s.cls ∧ t.neg = s.neg := by
  obtain ⟨t, ht, hframe⟩ := setupPreparesDigits.2 s
  refine ⟨t, ht, ?_⟩
  rw [hframe]
  exact ⟨rfl, rfl, rfl, rfl⟩

/-- MULW, MULU, MULL and SETUP from where PWALK has found its entry: the products keep R103's gaps. -/
theorem sequencerRun_four_of_mulw {i : Nat} (hcode : s.stateCode = Uop.mulw) (h84 : i ≤ 84)
    (hcp : s.cp = ⟨BitVec.ofNat 64 (powEntry i).1, BitVec.ofInt 32 (powEntry i).2⟩)
    (lo : -60 ≤ s.u.e.toInt + (powEntry i).2 + 64) (hi : s.u.e.toInt + (powEntry i).2 + 64 ≤ -34)
    (hlw : s.l.m.toNat + 2 ^ 9 ≤ s.w.m.toNat) (hwu : s.w.m.toNat + 2 ^ 10 ≤ s.u.m.toNat) :
    ∃ t, sequencerRun 4 s = t ∧ t.DigitsReady ∧ t.busy = s.busy ∧ t.fault = s.fault ∧ t.cls = s.cls ∧ t.neg = s.neg := by
  obtain ⟨t, ht, hflags⟩ := exec_setup_frame
    { s with w := mul s.w s.cp, u := mul s.u s.cp, l := mul s.l s.cp, stateCode := Uop.setup }
  have hrun : sequencerRun 4 s = t := by
    rw [sequencerRun_add 3 1, sequencerRun_multiplier hcode]
    exact sequencerRun_succ rfl ht
  obtain ⟨hnorm, hlt, -, -⟩ := powEntry_range i (by omega)
  obtain ⟨hm, he⟩ := powEntry_toDec h84
  have hue : (mul s.u s.cp).e.toInt = s.u.e.toInt + (powEntry i).2 + 64 := by
    rw [hcp]
    simp only [mul, toDec, he]
    exact toInt_toS32 (by simp only [Config.mulExpOffset]; omega) (by simp only [Config.mulExpOffset]; omega)
  obtain ⟨glw, gwu, glu⟩ := scalingKeepsGaps _ _ _ _ s.u.m.isLt hnorm hlt hlw hwu
  refine ⟨t, hrun, digitsReady_of_exec_setup ?_ ?_ ?_ ?_ ?_ ht, hflags⟩
  · simpa only [hue] using lo
  · simpa only [hue] using hi
  · simpa only [toNat_mul_m, hcp, hm] using glw
  · simpa only [toNat_mul_m, hcp, hm] using gwu
  · simpa only [toNat_mul_m, hcp, hm] using glu

/-- The sequencer's way from DECOMPOSE of a finite input to DGINT. -/
theorem sequencerRun_of_finite (hcode : s.stateCode = Uop.decompose) (hc : classify (bexpOf s.x) (fracOf s.x) = .finite) :
    ∃ a, 1 ≤ a ∧ a ≤ 3 ∧ ∃ t, sequencerRun (8 + a) s = t ∧ t.DigitsReady ∧ t.busy = s.busy ∧ t.fault = s.fault ∧
      t.cls = .finite ∧ t.neg = signOf s.x := by
  obtain ⟨d, k, -, -, hthree⟩ := sequencerRun_three_of_finite hcode hc
  obtain ⟨hpinit, -, -, -, he0, he1, -, -, hwu, hlw, -⟩ := boundaryRanges s hcode hc
  obtain ⟨a, ha1, ha3, -, h84, hlo, hhi, hlookup⟩ := lookupFindsPowIndex (sequencerRun 3 s) hpinit he0 he1
  obtain ⟨t, ht, hready, hbusy, hfault, hcls, hneg⟩ :=
    sequencerRun_four_of_mulw (s := sequencerRun (1 + a) (sequencerRun 3 s)) (i := powIndex (sequencerRun 3 s).u.e.toInt)
      (by rw [hlookup]) h84 (by rw [hlookup]) (by rwa [hlookup]) (by rwa [hlookup]) (by rwa [hlookup]) (by rwa [hlookup])
  have hsteps : 8 + a = 3 + (1 + a) + 4 := by omega
  rw [hlookup, hthree] at hbusy hfault hcls hneg
  exact ⟨a, ha1, ha3, t, by rw [hsteps, sequencerRun_add, sequencerRun_add, ht], hready, hbusy, hfault, hcls, hneg⟩

end

/-- Settles O51: the boundaries' gaps (R84), the lookup (R94) and the products (R103) give SETUP its ranges. -/
theorem finiteValuesReachDigitGenerator : Obligations.FiniteValuesReachDigitGenerator := by
  intro s hs hc
  obtain ⟨a, ha1, ha3, u, hu, hready, hbusy, hfault, hcls, hneg⟩ := sequencerRun_of_finite hs.at_decompose hc
  obtain ⟨t, ht, hst⟩ := hs.runSteps (8 + a)
  rw [hu] at hst
  refine ⟨a, ha1, ha3, t, ht, ?_⟩
  rw [hst]
  exact ⟨hready.at_dgint, hbusy.trans hs.busy_set, hfault.trans hs.fault_clear, hcls, hneg, hready.cut_ge, hready.cut_le,
    hready.kappa_eq, hready.ndig_eq, hready.delta_ge, hready.wfrac_ge, hready.wfrac_le, hready.wsc_eq, hready.p1_lt,
    hready.p2_lt, hready.split_eq⟩

end Sys2Proof.Machine

namespace Sys2Proof.Machine

/-! ### The guard faults: who raises which (60_exceptions.md R144 to R146) -/

/-- The guards: the micro-operation that has one, and the cause it raises (R145). -/
inductive Guard : Instr → FaultCause → Prop where
  | pwalk_tableRange : Guard .pwalk .tableRange
  | dgint_digitOverflow : Guard .dgint .digitOverflow
  | dgfrac_digitOverflow : Guard .dgfrac .digitOverflow
  | round_roundUnderflow : Guard .round .roundUnderflow
  | round_noDigits : Guard .round .noDigits
  | emit_outputOverflow : Guard .emit .outputOverflow
  | emit_noDigits : Guard .emit .noDigits

/-- The guards of `i` hold and FAULT is not set anew, or one of them trips and the fault entry is all that happens (R146). -/
inductive GuardOutcome (i : Instr) (s t : State) : Prop where
  | holds (fault : t.fault = true → s.fault = true)
  | trips (c : FaultCause) (guard : Guard i c) (eq : t = raiseFault c s)

section
variable (s : State)

theorem exec_pwalk_guardOutcome : ∃ t, exec .pwalk s = .next t ∧ GuardOutcome .pwalk s t := by
  by_cases hout : s.idx.toInt < 0 ∨ 86 < s.idx.toInt
  · exact ⟨_, exec_pwalk_of_outside hout, .trips _ .pwalk_tableRange rfl⟩
  obtain ⟨i, idx⟩ : ∃ i : Nat, s.idx.toInt = i := ⟨s.idx.toInt.toNat, by omega⟩
  have hi : i ≤ 86 := by omega
  rcases lt_or_ge (scaledExp s.u.e.toInt i) Config.windowLo with hbelow | hlo
  · exact ⟨_, exec_pwalk_of_below hi idx hbelow, .holds id⟩
  rcases lt_or_ge Config.windowHi (scaledExp s.u.e.toInt i) with habove | hhi
  · exact ⟨_, exec_pwalk_of_above hi idx habove, .holds id⟩
  · exact ⟨_, exec_pwalk_of_window hi idx hlo hhi, .holds id⟩

theorem exec_dgint_guardOutcome : ∃ t, exec .dgint s = .next t ∧ GuardOutcome .dgint s t := by
  obtain ⟨t, ht, eq | eq⟩ := exec_dgint_frame s
  · exact ⟨t, ht, .trips _ .dgint_digitOverflow eq⟩
  · exact ⟨t, ht, .holds (by rw [eq]; exact id)⟩

theorem exec_dgfrac_guardOutcome : ∃ t, exec .dgfrac s = .next t ∧ GuardOutcome .dgfrac s t := by
  by_cases hfull : (s.p2.toNat * 10 / 2 ^ s.cut.toNat ≠ 0 ∨ s.ndig ≠ 0) ∧ s.ndig = 18
  · obtain ⟨hd, h18⟩ := hfull
    exact ⟨_, exec_dgfrac_of_full hd h18, .trips _ .dgfrac_digitOverflow rfl⟩
  have hroom : (s.p2.toNat * 10 / 2 ^ s.cut.toNat = 0 ∧ s.ndig = 0) ∨ s.ndig ≠ 18 := by tauto
  obtain ⟨dig, n, append, -⟩ := exists_appendDigit hroom
  rcases lt_or_ge (s.p2.toNat * 10 % 2 ^ s.cut.toNat) (s.delta.toNat * 10) with hstop | hgo
  · exact ⟨_, exec_dgfrac_of_stop append hstop, .holds id⟩
  · exact ⟨_, exec_dgfrac_of_continue append hgo, .holds id⟩

/-- Over every NDIG, so also where the digit before it is a free value (log 12). -/
theorem exec_round_guardOutcome : ∃ t, exec .round s = .next t ∧ GuardOutcome .round s t := by
  by_cases hn : s.ndig = 0
  · exact ⟨_, exec_round_of_no_digits hn, .trips _ .round_noDigits rfl⟩
  by_cases hdown : roundsDown s.rem.toNat s.unit.toNat s.wsc.toNat s.delta.toNat
  · simp only [exec, execRound, if_neg hn, if_pos hdown]
    split
    · exact ⟨_, rfl, .trips _ .round_roundUnderflow rfl⟩
    · exact ⟨_, rfl, .holds id⟩
  · exact ⟨_, exec_round_of_done hn hdown, .holds id⟩

theorem exec_emit_guardOutcome : ∃ t, exec .emit s = .next t ∧ GuardOutcome .emit s t := by
  by_cases hn : s.ndig = 0
  · exact ⟨_, exec_emit_of_no_digits hn, .trips _ .emit_noDigits rfl⟩
  rcases lt_or_ge 999 (expMagnitude s.ndig.toNat s.kexp.toInt) with hlarge | hexp
  · exact ⟨_, exec_emit_of_large_exponent hn hlarge, .trips _ .emit_outputOverflow rfl⟩
  rcases lt_or_ge 25 (finiteText (digits s s.ndig.toNat) s.ndig.toNat s.kexp.toInt s.neg).length with hlong | hfit
  · exact ⟨_, exec_emit_of_long_text rfl hn hlong, .trips _ .emit_outputOverflow rfl⟩
  · exact ⟨_, exec_emit_of_fit rfl hn hexp hfit, .holds id⟩

/-- Each code of `hasGuard` decodes to one of the five. -/
theorem exec_uop_guardOutcome {c : BitVec 4} (hc : hasGuard c = true) :
    ∃ t, exec (decode (.uop c)) s = .next t ∧ GuardOutcome (decode (.uop c)) s t := by
  have hcode : ∀ c, hasGuard c = true → c = 0x6 ∨ c = 0xB ∨ c = 0xC ∨ c = 0xD ∨ c = 0xE := by decide
  obtain rfl | rfl | rfl | rfl | rfl := hcode c hc
  · exact exec_pwalk_guardOutcome s
  · exact exec_dgint_guardOutcome s
  · exact exec_dgfrac_guardOutcome s
  · exact exec_round_guardOutcome s
  · exact exec_emit_guardOutcome s

end

/-- Only a tripped guard sets FAULT: the host's forms and IDLE do not, nor does a micro-operation without a guard. -/
theorem guardOutcome_of_exec {i : Instr} {s t : State} (h : exec i s = .next t) : GuardOutcome i s t := by
  by_cases hi : (encode i).format = .uop
  · obtain ⟨code, rfl⟩ := exists_decode_of_format hi
    by_cases hidle : code = Uop.idle
    · subst hidle
      cases h
      exact .holds id
    obtain ⟨-, fault, -⟩ | ⟨guarded, -, -⟩ := exec_uop_leadsTo hidle h
    · exact .holds fault.symm.trans
    · obtain ⟨t', ht', outcome⟩ := exec_uop_guardOutcome s guarded
      cases ht'.symm.trans h
      exact outcome
  · obtain eq | ⟨-, -, rfl⟩ := exec_host_cases hi h
    · exact .holds (by rw [eq]; exact id)
    · exact .holds nofun

/-- Settles O28: `raiseFault` is R146's fault entry, and `Guard` lists the micro-operations with their causes. -/
theorem faultEntryWritesNothingElse : Obligations.FaultEntryWritesNothingElse := by
  intro i s t h hs ht
  obtain fault | ⟨c, guard, rfl⟩ := guardOutcome_of_exec h
  · exact nomatch hs.symm.trans (fault ht)
  · refine ⟨rfl, ?_⟩
    cases guard <;> simp [causeCode]

end Sys2Proof.Machine

namespace Sys2Proof.Machine

/-! ### The reset event (10_state.md R44, 70_reset_and_hazards.md R162) -/

/-- With R44's values in its fields, STATUS reads 0 (R21). -/
theorem statusWord_applyReset (s : State) : statusWord (applyReset s) = 0 := by
  simp only [statusWord, applyReset_stateCode, applyReset_neg, applyReset_cls, applyReset_cause, applyReset_cmdErr,
    applyReset_fault, applyReset_done, applyReset_busy]
  decide

/-- Settles O8: the step is `applyReset`, whose fields are R44's values. -/
theorem resetEventSetsResetValues : Obligations.ResetEventSetsResetValues := by
  intro s rest hp
  have hfetch : fetch s = .reset := by simp [fetch, nextEvent_of_cons hp rfl]
  have hpending : (advance s).pending = rest := by rw [advance_pending, hp, remaining_of_cons rest rfl]
  exact ⟨applyReset (advance s), step_of_reset hfetch,
    rfl, rfl, rfl, rfl, rfl, rfl, rfl, rfl, rfl, rfl, rfl, rfl, hpending, statusWord_applyReset (advance s) ▸ rfl⟩

/-! ### The sequencer's turn comes whatever the host does (70_reset_and_hazards.md R171) -/

theorem Event.isHost_eq_false_iff {e : Event} : e.isHost = false ↔ e = .turn ∨ e = .reset := by
  cases e <;> simp [Event.isHost]

/-- A stuck host takes no step while the sequencer runs (20_memory.md R49, log 8). -/
theorem isHost_nextEvent_of_stuck {s : State} {e : Event} {rest : List Event} (hp : s.pending = e :: rest)
    (he : e.sticksHost = true) (hc : s.stateCode ≠ Uop.idle) : (nextEvent s).isHost = false := by
  cases hf : rest.find? (!·.isHost) with
  | none => rw [nextEvent_of_stuck hp he (by simpa using hf) hc]; rfl
  | some e' =>
    have hn : nextEvent s = e' := by simp [nextEvent, hp, he, hf]
    simpa [hn] using List.find?_some hf

/-- While BUSY = 1 an event of the host that is admitted completes in one step and leaves the conversion as it is (R56). -/
theorem exists_step_of_host {s : State} {e : Event} {rest : List Event} (hp : s.pending = e :: rest)
    (he : e.sticksHost = false) (hh : e.isHost = true) (hb : s.busy = true) :
    ∃ u, step s = .next u ∧ s.SameButHost u ∧ u.pending = rest := by
  obtain ⟨enc, hf, hfmt, ha⟩ := exists_form_of_host (nextEvent_of_cons hp he) he hh
  obtain ⟨u, hu⟩ := exists_exec_host hfmt ha (advance s)
  refine ⟨u, (step_of_form hf).trans hu, State.SameButHost.trans (t := advance s) rfl (exec_host_sameButHost hfmt hb hu), ?_⟩
  rw [exec_pending hu, advance_pending, hp, remaining_of_cons rest he]

/-- While BUSY = 1 the events of the host run out: each takes one step, until the next event is not the host's. -/
theorem exists_runSteps_to_sequencer {s : State} (hb : s.busy = true) (hc : s.stateCode ≠ Uop.idle) :
    ∃ k ≤ s.pending.length, ∃ t, runSteps k s = .next t ∧ s.SameButHost t ∧ (nextEvent t).isHost = false := by
  induction hp : s.pending generalizing s with
  | nil => exact ⟨0, Nat.zero_le _, s, rfl, rfl, by rw [nextEvent_of_nil hp]; rfl⟩
  | cons e rest ih =>
    have at_once (h : (nextEvent s).isHost = false) : ∃ k ≤ (e :: rest).length, ∃ t, runSteps k s = .next t ∧
        s.SameButHost t ∧ (nextEvent t).isHost = false := ⟨0, Nat.zero_le _, s, rfl, rfl, h⟩
    cases he : e.sticksHost with
    | true => exact at_once (isHost_nextEvent_of_stuck hp he hc)
    | false =>
      cases hh : e.isHost with
      | false => exact at_once ((nextEvent_of_cons hp he).symm ▸ hh)
      | true =>
        obtain ⟨u, hstep, hsu, hpu⟩ := exists_step_of_host hp he hh hb
        have hbu : u.busy = true := by rw [hsu]; exact hb
        have hcu : u.stateCode ≠ Uop.idle := by rw [hsu]; exact hc
        obtain ⟨k, hk, t, hrun, hut, hnext⟩ := ih hbu hcu hpu
        exact ⟨k + 1, Nat.succ_le_succ hk, t, (runSteps_succ_of_step hstep k).trans hrun, hsu.trans hut, hnext⟩

/-- Settles O57: an event that is not the host's is a turn or a reset. -/
theorem sequencerStepsWhateverTheHostDoes : Obligations.SequencerStepsWhateverTheHostDoes := by
  intro s hb hc
  obtain ⟨k, hk, t, hrun, hst, hnext⟩ := exists_runSteps_to_sequencer hb hc
  exact ⟨k, hk, t, hrun, hst, Event.isHost_eq_false_iff.mp hnext⟩

end Sys2Proof.Machine
